-- ==== Sys2Proof/Word.lean ====
section
/-! DEFINITION. The byte, the byte sequences and the finite enumerations of the lorae32 codec block
(spec 00_scope.md R11 to R16, 10_state.md R20 to R24 and R37, 60_exceptions.md R186). -/

namespace Sys2Proof

/-- A byte is 8 bits, value 0 to 255, bit 7 most significant (R11, R53). -/
abbrev Byte := BitVec 8

/-- A byte sequence: index 0 is the first byte on the wire (R12, R50). Its length is not bounded:
`LMAX` is open and taken as unbounded (R51, D14; log entry 13). -/
abbrev Bytes := List Byte

/-- The six bytes of a register frame or of a configuration response (R61, R70). -/
structure Frame6 where
  b0 : Byte
  b1 : Byte
  b2 : Byte
  b3 : Byte
  b4 : Byte
  b5 : Byte
  deriving DecidableEq, Repr, Inhabited

/-- The four bytes of a version response (R61, R74). -/
structure Frame4 where
  b0 : Byte
  b1 : Byte
  b2 : Byte
  b3 : Byte
  deriving DecidableEq, Repr, Inhabited

/-- A frame in wire order, byte 0 first (R12, R56). -/
def Frame6.toBytes (f : Frame6) : Bytes := [f.b0, f.b1, f.b2, f.b3, f.b4, f.b5]

/-- A version response in wire order, byte 0 first (R12, R56). -/
def Frame4.toBytes (f : Frame4) : Bytes := [f.b0, f.b1, f.b2, f.b3]

/-- The three symbols of the field `parity` (R22). `NULL` is not one of them: a register that may
hold it has the type `Option Parity` (R16). -/
inductive Parity
  | p8N1 | p8O1 | p8E1
  deriving DecidableEq, Repr, Inhabited

/-- The eight symbols of the field `baudrate` (R23). -/
inductive Baud
  | b1200 | b2400 | b4800 | b9600 | b19200 | b38400 | b57600 | b115200
  deriving DecidableEq, Repr, Inhabited

/-- The six symbols of the field `datarate`: 0.3k, 1.2k, 2.4k, 4.8k, 9.6k, 19.2k (R24). -/
inductive Drate
  | d0k3 | d1k2 | d2k4 | d4k8 | d9k6 | d19k2
  deriving DecidableEq, Repr, Inhabited

/-- The symbols of `parity` in the source's order (R22). -/
def Parity.all : List Parity := [.p8N1, .p8O1, .p8E1]

/-- The symbols of `baudrate` in the source's order (R23). -/
def Baud.all : List Baud := [.b1200, .b2400, .b4800, .b9600, .b19200, .b38400, .b57600, .b115200]

/-- The symbols of `datarate` in the source's order (R24). -/
def Drate.all : List Drate := [.d0k3, .d1k2, .d2k4, .d4k8, .d9k6, .d19k2]

/-- The four operating modes of the module (R37, R198). -/
inductive Mode
  | normal | wakeup | powersave | sleep
  deriving DecidableEq, Repr, Inhabited

/-- The band result of a version query: a band, or the marker `UNKNOWN`, which is not `NULL`
(R16, R84, R109). -/
inductive VBand
  | known (band : Nat)
  | unknown
  deriving DecidableEq, Repr

/-- An application payload. Its structure is uninterpreted (R8, R205, D10): a payload is named by a
number, and only `Config.serialize`, `Config.parse` and `Config.isMap` say anything about it
(log entry 5). -/
structure Payload where
  tag : Nat
  deriving DecidableEq, Repr, Inhabited

/-- The outcome of an operation or procedure: `OK` or `FAIL`, and on the receive path `MESSAGE` or
`NO_MESSAGE` (R17, R189, R190). -/
inductive OpOutcome
  | ok | fail | message | noMessage
  deriving DecidableEq, Repr

/-- The diagnostic cause (R185, R186, R191). -/
inductive Cause
  | none | validation | protocol | integrity | transport | parse
  deriving DecidableEq, Repr

/-- The number of a cause (R186; the numbers are the spec's own, D15). -/
def Cause.code : Cause → Nat
  | .none => 0
  | .validation => 1
  | .protocol => 2
  | .integrity => 3
  | .transport => 4
  | .parse => 5

/-- What one `TransportRead()` answers: nothing buffered, a sequence of any length (possibly empty),
or an error (R18, R59). -/
inductive ReadAnswer
  | nothing
  | bytes (b : Bytes)
  | error
  deriving DecidableEq, Repr, Inhabited

/-- What one `TransportWrite(S)` answers: `ok`, or an error after some number of bytes of `S` left
the host. How many is unspecified, so any number may stand there (R60, U6). -/
inductive WriteAnswer
  | ok
  | error (sent : Nat)
  deriving DecidableEq, Repr, Inhabited

end Sys2Proof
end

