-- ==== Sys2Proof/Config.lean ====
section
/-! DEFINITION. The Configuration Record as data, and what an implementation fixes: the parameters
of spec 00_scope.md R8, each an opaque constant under the laws the spec states of it and no others.
The defaults written in `Params` are the spec's suggested instance; they only show that the laws can
be met, and no proof can see them. -/

namespace Sys2Proof

/-- CFR, the configuration field register file: ten registers, one per wire-carried field (R20). A
`none` in `parity`, `baud` or `drate` is the spec's marker `NULL` (R16, R22 to R24). -/
structure Cfr where
  /-- `CFR.ADDR`, the module's own address, 16 bits (R21). -/
  addr : BitVec 16
  /-- `CFR.PARITY` (R22). -/
  parity : Option Parity
  /-- `CFR.BAUD` (R23). -/
  baud : Option Baud
  /-- `CFR.DRATE` (R24). -/
  drate : Option Drate
  /-- `CFR.CHAN`, 8 bits; 0 to 31 is legal, 32 to 255 can be held (R25). -/
  chan : Byte
  /-- `CFR.TMODE`: 0 transparent, 1 fixed (R26). -/
  tmode : BitVec 1
  /-- `CFR.IOMODE` (R27). -/
  iomode : BitVec 1
  /-- `CFR.WUTIME` (R28). -/
  wutime : BitVec 3
  /-- `CFR.FEC` (R29). -/
  fec : BitVec 1
  /-- `CFR.TXPWR` (R30). -/
  txpwr : BitVec 2
  deriving DecidableEq, Repr

/-- The whole Configuration Record: the ten wire-carried fields and `MODEL`, `PORT`, `FREQ`
(00_scope.md glossary, R32). This is what `Persist` writes (R18). -/
structure Record where
  model : String
  port : String
  freq : Nat
  cfr : Cfr
  deriving DecidableEq, Repr

/-- The limits of a frequency band (R172). That the minimum is not above the maximum is read from
the clamp of R170 and R171 (log entry 6). -/
structure BandLimits where
  min : Nat
  max : Nat
  min_le_max : min ≤ max
  deriving DecidableEq, Repr

/-- `CFG_DEFAULT`: one value per Configuration Record field (R8, R46). The types make each value
legal for its field where a type can say so; `Params` states the rest. -/
structure CfgDefault where
  model : String
  port : String
  baud : Baud
  parity : Parity
  drate : Drate
  addr : BitVec 16
  chan : Byte
  freq : Nat
  tmode : BitVec 1
  iomode : BitVec 1
  wutime : BitVec 3
  fec : BitVec 1
  txpwr : BitVec 2

/-- The suggested `PARITY_CODE` (R80, GK1). -/
def Suggested.parityCode : Parity → BitVec 2
  | .p8N1 => 0
  | .p8O1 => 1
  | .p8E1 => 2

/-- The suggested `BAUD_CODE` (R81, GK2). -/
def Suggested.baudCode : Baud → BitVec 3
  | .b1200 => 0
  | .b2400 => 1
  | .b4800 => 2
  | .b9600 => 3
  | .b19200 => 4
  | .b38400 => 5
  | .b57600 => 6
  | .b115200 => 7

/-- The suggested `DRATE_CODE` (R82, GK3). -/
def Suggested.drateCode : Drate → BitVec 3
  | .d0k3 => 0
  | .d1k2 => 1
  | .d2k4 => 2
  | .d4k8 => 3
  | .d9k6 => 4
  | .d19k2 => 5

/-- The suggested `FREQV` (R84, GK4). -/
def Suggested.freqBand (c : Byte) : Option Nat :=
  if c = 0x32 then some 433
  else if c = 0x38 then some 470
  else if c = 0x45 then some 868
  else if c = 0x44 then some 915
  else if c = 0x46 then some 170
  else none

/-- The source's one band, 410 to 441 (R172). -/
def Suggested.sourceBand : BandLimits := ⟨410, 441, by decide⟩

/-- The suggested `CFG_DEFAULT` (R211, GK8). -/
def Suggested.cfgDefault : CfgDefault :=
  { model := "433T20S", port := "U1", baud := .b9600, parity := .p8N1, drate := .d2k4,
    addr := 0, chan := 6, freq := 416, tmode := 0, iomode := 1, wutime := 0, fec := 1, txpwr := 0 }

/-- The text of the source's one payload, `{"t":21.5}`, character code by character code (R8, scenario
2 of 95_test_vectors.md S2). -/
def scenarioText : Bytes :=
  [0x7B#8, 0x22#8, 0x74#8, 0x22#8, 0x3A#8, 0x32#8, 0x31#8, 0x2E#8, 0x35#8, 0x7D#8]

/-- The implementation's parameters with every law the spec states of them (R8, R46, U1 to U5, U11,
U20). A default is the spec's suggested instance, present only so that the type is seen to be
inhabited. -/
structure Params where
  /-- `PARITY_CODE`: injective, `8N1 -> 00` (R8, R80). -/
  parityCode : Parity → BitVec 2 := Suggested.parityCode
  parityCode_injective : Function.Injective parityCode := by
    intro a b; cases a <;> cases b <;> simp [Suggested.parityCode]
  parityCode_8N1 : parityCode .p8N1 = 0b00#2 := by rfl
  /-- `BAUD_CODE`: injective, `9600 -> 011` (R8, R81). -/
  baudCode : Baud → BitVec 3 := Suggested.baudCode
  baudCode_injective : Function.Injective baudCode := by
    intro a b; cases a <;> cases b <;> simp [Suggested.baudCode]
  baudCode_9600 : baudCode .b9600 = 0b011#3 := by rfl
  /-- `DRATE_CODE`: injective, `2.4k -> 010` (R8, R82). -/
  drateCode : Drate → BitVec 3 := Suggested.drateCode
  drateCode_injective : Function.Injective drateCode := by
    intro a b; cases a <;> cases b <;> simp [Suggested.drateCode]
  drateCode_2k4 : drateCode .d2k4 = 0b010#3 := by rfl
  /-- `FREQV`: any partial map from bytes to bands (R84). -/
  freqBand : Byte → Option Nat := Suggested.freqBand
  /-- `BAND`: the known table of model tags (R172, R173). -/
  band : String → Option BandLimits :=
    fun t => if t = "433T20S" then some Suggested.sourceBand else none
  /-- The band 410 to 441 of the source exists in the table (R8, R172). -/
  band_410_441 : ∃ t b, band t = some b ∧ b.min = 410 ∧ b.max = 441 := by
    exact ⟨"433T20S", Suggested.sourceBand, by simp, rfl, rfl⟩
  /-- The default band used for an invalid model tag (R175, R176). -/
  defaultBand : BandLimits := Suggested.sourceBand
  /-- Membership in the enumerated set of `port`, which the source does not give (R34, N9). -/
  portValid : String → Bool := fun _ => true
  /-- `CFG_DEFAULT` (R8, R46). -/
  cfgDefault : CfgDefault := Suggested.cfgDefault
  /-- Every default is legal for its field: the channel (R46, D13). -/
  cfgDefault_chan : cfgDefault.chan.toNat ≤ 31 := by decide
  /-- Every default is legal for its field: the model tag is in the known table (R46, D13). -/
  cfgDefault_model : (band cfgDefault.model).isSome = true := by simp [Suggested.cfgDefault]
  /-- Every default is legal for its field: the port (R46, D13). -/
  cfgDefault_port : portValid cfgDefault.port = true := by rfl
  /-- `Serialize`; `none` is a failure inside it (R8, D10). -/
  serialize : Payload → Option Bytes := fun _ => some scenarioText
  /-- `Parse`; `none` is a parse failure (R8, R137). -/
  parse : Bytes → Option Payload := fun _ => none
  /-- `IsMap` (R8, R131). -/
  isMap : Payload → Bool := fun _ => true
  /-- The pinned value of `Serialize`: a payload whose text is `{"t":21.5}`, and which is sent, so a
  map (R8, S2; log entry 5). -/
  serialize_scenario : ∃ p, isMap p = true ∧ serialize p = some scenarioText := by
    exact ⟨⟨0⟩, rfl, rfl⟩
  /-- `RX_FAIL_KEEPS_LAST` (R8, R138, D12). -/
  rxFailKeepsLast : Bool := true
  /-- Whether the 50 ms wait is still made after a transport write error (R154, U20). -/
  waitAfterWriteError : Bool := true
  deriving Inhabited

namespace Config

/-- The parameters of this implementation: nothing is known of them but the laws in `Params`
(log entries 1 to 7). -/
opaque params : Params

/-- `MODE` before the first `setMode`: not in the source, so no value may be assumed (R46, U13;
log entry 8). -/
opaque modeAtReset : Mode

/-- What the persistent store holds at reset: external and unspecified (R46; log entry 9). -/
opaque storeAtReset : Option Record

/-- The answer of the `n`-th unscripted `TransportRead()`: an oracle under no law (R59, D25, U10;
log entry 10). -/
opaque freeRead : Nat → ReadAnswer

/-- The answer of the `n`-th unscripted `TransportWrite(S)`: an oracle under no law (R60, D25, U6;
log entry 10). -/
opaque freeWrite : Nat → WriteAnswer

/-- The answer of the `n`-th unscripted `Idle()`; `true` is idle (R164, R203, D25; log entry 10). -/
opaque freeIdle : Nat → Bool

/-- `PARITY_CODE` (R80). -/
def parityCode (p : Parity) : BitVec 2 := params.parityCode p

/-- `BAUD_CODE` (R81). -/
def baudCode (b : Baud) : BitVec 3 := params.baudCode b

/-- `DRATE_CODE` (R82). -/
def drateCode (d : Drate) : BitVec 3 := params.drateCode d

/-- `FREQV` (R84). -/
def freqBand (c : Byte) : Option Nat := params.freqBand c

/-- `BAND` (R172): `none` for a tag outside the known table. -/
def band (tag : String) : Option BandLimits := params.band tag

/-- The default band (R176). -/
def defaultBand : BandLimits := params.defaultBand

/-- Membership in the enumerated set of `port` (R34). -/
def portValid (p : String) : Bool := params.portValid p

/-- `CFG_DEFAULT` (R46). -/
def cfgDefault : CfgDefault := params.cfgDefault

/-- `Serialize` (R8). -/
def serialize (p : Payload) : Option Bytes := params.serialize p

/-- `Parse` (R8). -/
def parse (t : Bytes) : Option Payload := params.parse t

/-- `IsMap` (R8). -/
def isMap (p : Payload) : Bool := params.isMap p

/-- `RX_FAIL_KEEPS_LAST` (R138). -/
def rxFailKeepsLast : Bool := params.rxFailKeepsLast

/-- Whether the settle wait follows a failed transport write (U20). -/
def waitAfterWriteError : Bool := params.waitAfterWriteError

end Config
end Sys2Proof
end

