-- ==== Sys2Proof/Syntax.lean ====
section
/-! DEFINITION. The instructions: one constructor of `Instr` per row of spec/opcode_table.json (wire
frames and block operations, 30_encoding.md R85), and the encoded form each one has: the operand
ports of 10_state.md R38 for a block operation, the bytes of a frame for a wire frame. -/

namespace Sys2Proof

/-- The ten fields a register frame carries in its bytes 1 to 5, each as the raw code on the wire
(R71, field letters a p b d c t i w f x of 30_encoding.md). -/
structure CfgFields where
  addr : BitVec 16
  parity : BitVec 2
  baud : BitVec 3
  drate : BitVec 3
  chan : Byte
  tmode : BitVec 1
  iomode : BitVec 1
  wutime : BitVec 3
  fec : BitVec 1
  txpwr : BitVec 2
  deriving DecidableEq, Repr

/-- The instructions, one per row of spec/opcode_table.json. -/
inductive Instr
  /-- Wire command `0xC0`, format `CFG6` (R158). Its 40 variable bits are what the frame carries:
  PACK_CFG fills them from CFR (R152), they are no operand of the command (log entry 14). -/
  | setConfigPwrDwnSave (frame : CfgFields)
  /-- Wire command `0xC2`, format `CFG6` (R159); the variable bits as for `0xC0`. -/
  | setConfigPwrDwnNoSave (frame : CfgFields)
  /-- Wire command `0xC1`, format `CMD3` (R157). -/
  | getConfig
  /-- Wire command `0xC3`, format `CMD3` (R156). -/
  | getVersion
  /-- Wire command `0xC4`, format `CMD3` (R160). -/
  | reset
  /-- A configuration response of the module, format `RSP6` (R73, R104). -/
  | rsp6ConfigResponse (header : Byte) (fields : CfgFields)
  /-- A version response of the module, format `RSP4` (R74, R108). -/
  | rsp4VersionResponse (header freqCode version features : Byte)
  /-- An outgoing message frame without prefix, format `MSG` (R75, R135). -/
  | msgTransparent (useCs : Bool) (text : Bytes)
  /-- An outgoing message frame with the 3-byte prefix, format `MSG` (R75, R135). -/
  | msgFixed (dstAddr : BitVec 16) (dstChan : Byte) (useCs : Bool) (text : Bytes)
  /-- A message frame as received; `useCs` is told by the caller, not by the frame (R94, R142). -/
  | msgReceived (useCs : Bool) (rxb : Bytes)
  /-- `OP = 000` (R100). -/
  | packCfg (hdr : Byte)
  /-- `OP = 001` (R104). -/
  | unpackCfg (resp6 : Frame6)
  /-- `OP = 010` (R108). -/
  | unpackVer (resp4 : Frame4)
  /-- `OP = 011` (R120). -/
  | csum (text : Bytes)
  /-- `OP = 100` (R121). -/
  | csverify (text : Bytes)
  /-- `OP = 101` (R130, R135). -/
  | txframe (isMap useCs : Bool) (dstAddr : BitVec 16) (dstChan : Byte) (text : Bytes)
  /-- `OP = 110` (R136, R142); `none` is the port value `none`. -/
  | rxdeframe (useCs : Bool) (rxb : Option Bytes)
  /-- `OP = 111`, which selects no operation (R92). -/
  | reservedOp
  deriving DecidableEq, Repr

/-- The operand ports of the block beside `OP` (R38). An operation reads the ports R38 gives it and
no other. -/
structure Ports where
  hdr : Byte := 0
  resp6 : Frame6 := ⟨0, 0, 0, 0, 0, 0⟩
  resp4 : Frame4 := ⟨0, 0, 0, 0⟩
  text : Bytes := []
  isMap : Bool := false
  useCs : Bool := false
  dstAddr : BitVec 16 := 0
  dstChan : Byte := 0
  rxb : Option Bytes := none
  deriving DecidableEq, Repr

/-- An instruction as it is presented: a value of the 3-bit port `OP` with the operand ports (R87),
or the bytes of a wire frame with what no bit of the frame tells (its direction, and for a message
whether a prefix and a checksum byte are present: R93, R94). -/
inductive Encoded
  | op (sel : BitVec 3) (ports : Ports)
  | commandFrame (bytes : Bytes)
  | response (bytes : Bytes)
  | outMessage (fixed useCs : Bool) (bytes : Bytes)
  | inMessage (useCs : Bool) (bytes : Bytes)
  deriving DecidableEq, Repr

/-- Why the decoder refuses an encoded form. -/
inductive DecodeReject
  /-- The command byte is none of `0xC0` to `0xC4`, or heads a frame of the other format (R90, R93). -/
  | unknownCommand (b : Byte)
  /-- A 3-byte command frame whose bytes are not all the same (R72). -/
  | notTriplicated
  /-- A command frame that is neither 3 nor 6 bytes long (R93). -/
  | commandLength (n : Nat)
  /-- A response that is neither 6 nor 4 bytes long (R93). -/
  | responseLength (n : Nat)
  /-- A fixed-mode message frame shorter than its prefix (R75). -/
  | prefixMissing
  /-- A message frame said to carry a checksum byte that has no byte for it (R75). -/
  | checksumMissing
  /-- An outgoing message frame whose last byte is not the checksum of its payload bytes (R75). -/
  | checksumWrong
  deriving DecidableEq, Repr

end Sys2Proof
end

