-- ==== Sys2Proof/Machine/Operands.lean ====
section
/-! DEFINITION. The operand forms: assembling and extracting the fields of a register frame, the code
tables and their inverses, the message frame, and the byte sum (30_encoding.md R75 to R84,
42_checksum.md R120 to R127). Everything here is a function of bytes and fields alone. -/

namespace Sys2Proof.Machine

/-- `v div 256` of a 16-bit quantity, its high byte (R54, R78). -/
def highByte (v : BitVec 16) : Byte := BitVec.ofNat 8 (v.toNat / 256)

/-- `v mod 256` of a 16-bit quantity, its low byte (R54, R78). -/
def lowByte (v : BitVec 16) : Byte := BitVec.ofNat 8 (v.toNat % 256)

/-- `MemRead(S, off, 2)` of the two bytes: big-endian (R13, R54, R78). -/
def joinBytes (hi lo : Byte) : BitVec 16 := BitVec.ofNat 16 (hi.toNat * 256 + lo.toNat)

/-- Byte 3 of a register frame: `parity, baudrate, datarate` from bit 7 down (R55, R76). -/
def byte3 (p : BitVec 2) (b d : BitVec 3) : Byte := p ++ b ++ d

/-- Byte 5 of a register frame: `transmode, iomode, wutime, fec, txpower` from bit 7 down (R55,
R77, D24). -/
def byte5 (t i : BitVec 1) (w : BitVec 3) (f : BitVec 1) (x : BitVec 2) : Byte :=
  t ++ i ++ w ++ f ++ x

/-- The register frame of ten fields behind a header byte (R71). -/
def cfgFrame (header : Byte) (f : CfgFields) : Frame6 where
  b0 := header
  b1 := highByte f.addr
  b2 := lowByte f.addr
  b3 := byte3 f.parity f.baud f.drate
  b4 := f.chan
  b5 := byte5 f.tmode f.iomode f.wutime f.fec f.txpwr

/-- The ten fields in bytes 1 to 5 of a register frame or response; byte 0 is not read (R71, R73,
R76 to R79, R91). -/
def cfgFields (r : Frame6) : CfgFields where
  addr := joinBytes r.b1 r.b2
  parity := r.b3.extractLsb' 6 2
  baud := r.b3.extractLsb' 3 3
  drate := r.b3.extractLsb' 0 3
  chan := r.b4
  tmode := r.b5.extractLsb' 7 1
  iomode := r.b5.extractLsb' 6 1
  wutime := r.b5.extractLsb' 3 3
  fec := r.b5.extractLsb' 2 1
  txpwr := r.b5.extractLsb' 0 2

/-- `PARITY_INV`: the symbol with this code, or `NULL` (R88, R105). -/
def parityInv (c : BitVec 2) : Option Parity := Parity.all.find? fun p => Config.parityCode p == c

/-- `BAUD_INV` (R88, R105). -/
def baudInv (c : BitVec 3) : Option Baud := Baud.all.find? fun b => Config.baudCode b == c

/-- `DRATE_INV` (R88, R105). -/
def drateInv (c : BitVec 3) : Option Drate := Drate.all.find? fun d => Config.drateCode d == c

/-- The fields CFR puts into a register frame, or `none` when `PARITY`, `BAUD` or `DRATE` is `NULL`,
which has no code to emit (R100, R101). The channel goes out whole (R103). -/
def packFields (c : Cfr) : Option CfgFields :=
  match c.parity, c.baud, c.drate with
  | some p, some b, some d =>
    some { addr := c.addr, parity := Config.parityCode p, baud := Config.baudCode b,
           drate := Config.drateCode d, chan := c.chan, tmode := c.tmode, iomode := c.iomode,
           wutime := c.wutime, fec := c.fec, txpwr := c.txpwr }
  | _, _, _ => none

/-- The frame PACK_CFG builds, with the caller's header copied unchecked (R100, R102). -/
def packFrame (hdr : Byte) (c : Cfr) : Option Frame6 := (packFields c).map (cfgFrame hdr)

/-- The register file UNPACK_CFG leaves: each of the ten fields from the response, an absent code as
`NULL` (R104, R105). -/
def unpackFields (f : CfgFields) : Cfr where
  addr := f.addr
  parity := parityInv f.parity
  baud := baudInv f.baud
  drate := drateInv f.drate
  chan := f.chan
  tmode := f.tmode
  iomode := f.iomode
  wutime := f.wutime
  fec := f.fec
  txpwr := f.txpwr

/-- The band of a frequency-code: `FREQV`, or `UNKNOWN` outside its domain (R84, R92, R108). -/
def versionBand (code : Byte) : VBand :=
  match Config.freqBand code with
  | some b => .known b
  | none => .unknown

/-- `sum(S)`: the sum of the bytes as natural numbers, not reduced (R12, R127). -/
def sumBytes : Bytes → Nat
  | [] => 0
  | b :: rest => b.toNat + sumBytes rest

/-- `(-s) mod 256` of a natural `s` of 0 to 255 (R15). -/
def negMod256 (s : Nat) : Byte := BitVec.ofNat 8 (if s = 0 then 0 else 256 - s)

/-- The one-byte two's complement of the sum modulo 256 (R120). -/
def checksum (text : Bytes) : Byte := negMod256 (sumBytes text % 256)

/-- The zero-sum rule (R121). -/
def zeroSum (s : Bytes) : Bool := sumBytes s % 256 == 0

/-- The 3-byte prefix of a fixed-mode message: destination address high, low, and channel (R132). -/
def messagePrefix (fixed : Bool) (dstAddr : BitVec 16) (dstChan : Byte) : Bytes :=
  if fixed then [highByte dstAddr, lowByte dstAddr, dstChan] else []

/-- The checksum suffix, over the text alone (R134). -/
def messageSuffix (useCs : Bool) (text : Bytes) : Bytes :=
  if useCs then [checksum text] else []

/-- The message frame: prefix, text, suffix (R75, R135). -/
def messageFrame (fixed useCs : Bool) (dstAddr : BitVec 16) (dstChan : Byte) (text : Bytes) : Bytes :=
  messagePrefix fixed dstAddr dstChan ++ text ++ messageSuffix useCs text

end Sys2Proof.Machine
end

