-- ==== Sys2Proof/WellFormed.lean ====
section
/-! DEFINITION. The checks an instruction's fields must meet beyond their types. Widths and lengths
are in the types, so what is left is the legal channel range of a set-config command frame. -/

namespace Sys2Proof

/-- The channel a register frame carries is in the legal range 0 to 31 (R25, R71, R79: "in every
legal frame" the top three bits of byte 4 are zero). -/
def CfgFields.legalChannel (f : CfgFields) : Bool := f.chan.toNat ≤ 31

/-- A well-formed instruction. A set-config command frame is legal only with a channel of 0 to 31;
a response may carry any byte (R73, R89), and every other operand is free. -/
def WellFormed : Instr → Bool
  | .setConfigPwrDwnSave f => f.legalChannel
  | .setConfigPwrDwnNoSave f => f.legalChannel
  | .getConfig => true
  | .getVersion => true
  | .reset => true
  | .rsp6ConfigResponse _ _ => true
  | .rsp4VersionResponse _ _ _ _ => true
  | .msgTransparent _ _ => true
  | .msgFixed _ _ _ _ => true
  | .msgReceived _ _ => true
  | .packCfg _ => true
  | .unpackCfg _ => true
  | .unpackVer _ => true
  | .csum _ => true
  | .csverify _ => true
  | .txframe _ _ _ _ _ => true
  | .rxdeframe _ _ => true
  | .reservedOp => true

end Sys2Proof
end

