-- ==== Sys2Proof/Decode.lean ====
section
/-! DEFINITION. The decoder, total on every encoded form and rejecting by name, and after it the
encoder, both written from the formats of 30_encoding.md R70 to R75, R86 and R87. -/

namespace Sys2Proof

open Sys2Proof.Machine

/-- The block operation a value of the port `OP` selects, with the ports R38 gives it (R87, R92). -/
def decodeOp (sel : BitVec 3) (p : Ports) : Instr :=
  match sel.toNat with
  | 0 => .packCfg p.hdr
  | 1 => .unpackCfg p.resp6
  | 2 => .unpackVer p.resp4
  | 3 => .csum p.text
  | 4 => .csverify p.text
  | 5 => .txframe p.isMap p.useCs p.dstAddr p.dstChan p.text
  | 6 => .rxdeframe p.useCs p.rxb
  | _ => .reservedOp

/-- A command frame: the command byte three times, or a 6-byte register frame headed by `0xC0` or
`0xC2` (R71, R72, R86, R93). -/
def decodeCommand : Bytes → Except DecodeReject Instr
  | [k0, k1, k2] =>
    if k0 = k1 ∧ k1 = k2 then
      if k0 = 0xC1#8 then .ok .getConfig
      else if k0 = 0xC3#8 then .ok .getVersion
      else if k0 = 0xC4#8 then .ok .reset
      else .error (.unknownCommand k0)
    else .error .notTriplicated
  | [b0, b1, b2, b3, b4, b5] =>
    if b0 = 0xC0#8 then .ok (.setConfigPwrDwnSave (cfgFields ⟨b0, b1, b2, b3, b4, b5⟩))
    else if b0 = 0xC2#8 then .ok (.setConfigPwrDwnNoSave (cfgFields ⟨b0, b1, b2, b3, b4, b5⟩))
    else .error (.unknownCommand b0)
  | bs => .error (.commandLength bs.length)

/-- A response frame, told apart by its length alone; any byte 0 is accepted (R73, R74, R91, R93). -/
def decodeResponse : Bytes → Except DecodeReject Instr
  | [b0, b1, b2, b3, b4, b5] =>
    .ok (.rsp6ConfigResponse b0 (cfgFields ⟨b0, b1, b2, b3, b4, b5⟩))
  | [b0, b1, b2, b3] => .ok (.rsp4VersionResponse b0 b1 b2 b3)
  | bs => .error (.responseLength bs.length)

/-- The payload bytes of an outgoing frame whose prefix is already off: all bytes, or all but the
last, which must be the checksum of the others (R75). -/
def decodeText (useCs : Bool) (bs : Bytes) : Except DecodeReject Bytes :=
  if useCs then
    match bs.getLast? with
    | none => .error .checksumMissing
    | some c => if c = checksum bs.dropLast then .ok bs.dropLast else .error .checksumWrong
  else .ok bs

/-- An outgoing message frame in the shape it is said to have (R75, R94). -/
def decodeOutMessage (fixed useCs : Bool) (bs : Bytes) : Except DecodeReject Instr :=
  if fixed then
    match bs with
    | hi :: lo :: chan :: rest =>
      match decodeText useCs rest with
      | .ok text => .ok (.msgFixed (joinBytes hi lo) chan useCs text)
      | .error e => .error e
    | _ => .error .prefixMissing
  else
    match decodeText useCs bs with
    | .ok text => .ok (.msgTransparent useCs text)
    | .error e => .error e

/-- The decoder. -/
def decode : Encoded → Except DecodeReject Instr
  | .op sel ports => .ok (decodeOp sel ports)
  | .commandFrame bs => decodeCommand bs
  | .response bs => decodeResponse bs
  | .outMessage fixed useCs bs => decodeOutMessage fixed useCs bs
  | .inMessage useCs bs => .ok (.msgReceived useCs bs)

/-- The encoder: the frame's bytes, or the `OP` value with the ports the operation reads and zeros on
the others (R71 to R75, R86, R87). -/
def encode : Instr → Encoded
  | .setConfigPwrDwnSave f => .commandFrame (cfgFrame 0xC0#8 f).toBytes
  | .setConfigPwrDwnNoSave f => .commandFrame (cfgFrame 0xC2#8 f).toBytes
  | .getConfig => .commandFrame [0xC1#8, 0xC1#8, 0xC1#8]
  | .getVersion => .commandFrame [0xC3#8, 0xC3#8, 0xC3#8]
  | .reset => .commandFrame [0xC4#8, 0xC4#8, 0xC4#8]
  | .rsp6ConfigResponse h f => .response (cfgFrame h f).toBytes
  | .rsp4VersionResponse h q v e => .response [h, q, v, e]
  | .msgTransparent useCs text => .outMessage false useCs (messageFrame false useCs 0 0 text)
  | .msgFixed addr chan useCs text => .outMessage true useCs (messageFrame true useCs addr chan text)
  | .msgReceived useCs rxb => .inMessage useCs rxb
  | .packCfg hdr => .op 0#3 { hdr := hdr }
  | .unpackCfg r => .op 1#3 { resp6 := r }
  | .unpackVer r => .op 2#3 { resp4 := r }
  | .csum text => .op 3#3 { text := text }
  | .csverify text => .op 4#3 { text := text }
  | .txframe isMap useCs addr chan text =>
    .op 5#3 { isMap := isMap, useCs := useCs, dstAddr := addr, dstChan := chan, text := text }
  | .rxdeframe useCs rxb => .op 6#3 { useCs := useCs, rxb := rxb }
  | .reservedOp => .op 7#3 {}

/-- The low `n` bytes of `w`, most significant first: spec/opcode_table.json writes a frame as one
number with byte 0 at the top (match `0xC00000000000`; log entry 15). -/
def bytesOfTableWord : Nat → Nat → Bytes
  | 0, _ => []
  | n + 1, w => BitVec.ofNat 8 (w / 256 ^ n) :: bytesOfTableWord n w

/-- A 48-bit frame of the table is a command frame when its byte 0 is one of the two headers the
table fixes, else the row with all bits free, a response (R71, R73; log entry 15). -/
def sixByteTableWord (bs : Bytes) : Encoded :=
  if bs.head? = some 0xC0#8 ∨ bs.head? = some 0xC2#8 then .commandFrame bs else .response bs

/-- A word of spec/opcode_table.json, as the table numbers its bits, in its encoded form: the row's
format is read off the number of bits (log entry 15). -/
def tableWord (nbits w : Nat) : Encoded :=
  match (nbits + 7) / 8 with
  | 0 => .outMessage false false []
  | 1 => if w < 8 then .op (BitVec.ofNat 3 w) {} else .commandFrame (bytesOfTableWord 1 w)
  | 4 => .response (bytesOfTableWord 4 w)
  | 6 => sixByteTableWord (bytesOfTableWord 6 w)
  | n => .commandFrame (bytesOfTableWord n w)

/-- The instruction the decoder reads from a word of spec/opcode_table.json. -/
def decodeTableWord (nbits w : Nat) : Option Instr :=
  match decode (tableWord nbits w) with
  | .ok i => some i
  | .error _ => none

end Sys2Proof
end

