-- ==== Sys2Proof/Machine/State.lean ====
section
/-! DEFINITION. The state of the machine as plain data (10_state.md): the block's registers, the host
agent's record fields, the environment the host sees through its primitives, the output ports of the
last operation, and the requests the host has yet to make. -/

namespace Sys2Proof.Machine

/-- A direct write of one CFR register by the host (R20, R31 c, R97). `NULL` is not among the values:
only UNPACK_CFG writes it (R22). -/
inductive CfrWrite
  | addr (v : BitVec 16)
  | parity (v : Parity)
  | baud (v : Baud)
  | drate (v : Drate)
  | chan (v : Byte)
  | tmode (v : BitVec 1)
  | iomode (v : BitVec 1)
  | wutime (v : BitVec 3)
  | fec (v : BitVec 1)
  | txpwr (v : BitVec 2)
  deriving DecidableEq, Repr

/-- The five register-level commands (R86, R150). -/
inductive Command
  | setConfigPwrDwnSave | setConfigPwrDwnNoSave | getConfig | getVersion | reset
  deriving DecidableEq, Repr

/-- The host procedures that are no row of spec/opcode_table.json (R85). -/
inductive HostCall
  /-- `Command(k)`, the command named by its byte value (R86, R162, R166). -/
  | command (k : Byte)
  /-- `setMode(m)` (R151). -/
  | setMode (m : Mode)
  /-- `Send` (R140). -/
  | send (payload : Payload) (useCs : Bool) (dstAddr : BitVec 16) (dstChan : Byte)
  /-- `Receive` (R141). -/
  | receive (useCs : Bool)
  /-- `start` (R178). -/
  | start (address : BitVec 16) (channel : Byte) (transmode : BitVec 1)
  /-- `setTransmissionMode` (R179). -/
  | setTransmissionMode (m : BitVec 1)
  /-- The idle-wait loop (R164). -/
  | idleWait
  /-- A direct register write (R31 c, R97). -/
  | writeCfr (w : CfrWrite)
  /-- The explicit load call of the persistent store (R180, R204). -/
  | load
  deriving DecidableEq, Repr

/-- One request of the host: an instruction in its encoded form, or a host procedure. -/
inductive Request
  | word (e : Encoded)
  | call (h : HostCall)
  deriving DecidableEq, Repr

/-- One use of a host primitive, with what it passed or was answered (R18). -/
inductive Event
  /-- `SetLines(m)` (R151, R202). -/
  | setLines (m : Mode)
  /-- `wait(t)`, `t` in milliseconds (R18). -/
  | wait (ms : Nat)
  /-- `TransportWrite(offered)`: `sent` is what left the host, all of it exactly when `ok` (R60). -/
  | write (offered sent : Bytes) (ok : Bool)
  /-- `TransportRead()` and its answer (R59). -/
  | read (a : ReadAnswer)
  /-- `Idle()` and its answer (R164). -/
  | poll (idle : Bool)
  /-- `Persist(record)` (R18). -/
  | persist (r : Record)
  deriving DecidableEq, Repr

/-- The environment as oracle (R39, R43, D25). `reads` stands for the transport's receive buffer: what
each successive `TransportRead()` will return, each answer removed as it is returned (R59). An answer
that no list holds is a free value of Config, counted by `drawn` (log entry 10). -/
structure Env where
  reads : List ReadAnswer
  writes : List WriteAnswer
  idles : List Bool
  drawn : Nat
  deriving DecidableEq, Repr

/-- The output ports as the last operation or procedure left them (R38). No rule reads them and each
operation replaces them whole, so nothing is latched from one to the next (R41; log entry 11). -/
structure Out where
  outcome : Option OpOutcome := none
  cause : Cause := .none
  frame6 : Option Frame6 := none
  vband : Option VBand := none
  vver : Option Byte := none
  vfeat : Option Byte := none
  cs : Option Byte := none
  zero : Option Bool := none
  msg : Option Bytes := none
  payload : Option Payload := none
  deriving DecidableEq, Repr

/-- The machine state. -/
structure State where
  /-- CFR, the ten configuration field registers (R20). -/
  cfr : Cfr
  /-- `MODEL` (R33). -/
  model : String
  /-- `PORT` (R34). -/
  port : String
  /-- `FREQ` (R35). -/
  freq : Nat
  /-- `LAST`: the last successfully parsed payload, or `NULL` (R36). -/
  last : Option Payload
  /-- `MODE`: the operating mode last asserted (R37). -/
  mode : Mode
  /-- The persistent store's document (R39 b, R204). -/
  store : Option Record
  /-- The transport and the busy/idle signal (R39 a, R43). -/
  env : Env
  /-- The uses of host primitives so far, oldest first (the model's own; log entry 12). -/
  trace : List Event
  /-- The output ports (R38; the model's own field, log entry 11). -/
  out : Out
  /-- The requests still to be made, first one first (R40; the model's own field, log entry 16). -/
  requests : List Request
  deriving DecidableEq, Repr

/-- The reasons the machine can stop with a fault: there are none. "No failure is fatal to the process
— every operation returns a value rather than aborting" (R17); a failure is the outcome `FAIL` or
`NO_MESSAGE` in a next state (R195). Safe: there is nothing to raise. -/
inductive Fault
  deriving DecidableEq, Repr

/-- The reasons a step has no meaning. -/
inductive Refusal
  /-- Raised by an arm of `exec` whose instruction has no meaning yet; none is left. Safe. -/
  | notModelled (mnemonic : String)
  /-- Raised by the host procedure `load`: what the load call of the persistent store does to the
  record "is not described" (R180) and U19 says to refuse it. Safe: the machine stops where the driver
  would go on. -/
  | loadCallUnsaid
  deriving DecidableEq, Repr

/-- CFR after reset: `CFG_DEFAULT` (R46, R210). -/
def Cfr.reset : Cfr where
  addr := Config.cfgDefault.addr
  parity := some Config.cfgDefault.parity
  baud := some Config.cfgDefault.baud
  drate := some Config.cfgDefault.drate
  chan := Config.cfgDefault.chan
  tmode := Config.cfgDefault.tmode
  iomode := Config.cfgDefault.iomode
  wutime := Config.cfgDefault.wutime
  fec := Config.cfgDefault.fec
  txpwr := Config.cfgDefault.txpwr

/-- The machine right after reset, which is driver construction (R46, R210, R212): the record holds
`CFG_DEFAULT`, `LAST` is `NULL`, `MODE` and the store are what the source leaves unspecified, nothing
has been asserted, written or read, and no request is pending. -/
def State.reset : State where
  cfr := Cfr.reset
  model := Config.cfgDefault.model
  port := Config.cfgDefault.port
  freq := Config.cfgDefault.freq
  last := none
  mode := Config.modeAtReset
  store := Config.storeAtReset
  env := { reads := [], writes := [], idles := [], drawn := 0 }
  trace := []
  out := {}
  requests := []

end Sys2Proof.Machine
end

