-- ==== Sys2Proof/Machine/Flags.lean ====
section
/-! DEFINITION. The status an operation delivers. The block has no condition codes (10_state.md R41);
its only status is OUTCOME and CAUSE, computed here once for every operation (R17, R186, R189). -/

namespace Sys2Proof.Machine

/-- `OK`, no cause, no result (R17). -/
def Out.ok : Out := { outcome := some .ok }

/-- `FAIL` with its diagnostic cause and no result (R17, R195). -/
def Out.fail (c : Cause) : Out := { outcome := some .fail, cause := c }

/-- `NO_MESSAGE` with its diagnostic cause and no payload (R17, R190). -/
def Out.noMessage (c : Cause) : Out := { outcome := some .noMessage, cause := c }

/-- `MESSAGE` with its payload (R17, R137). -/
def Out.message (p : Payload) : Out := { outcome := some .message, payload := some p }

/-- The cause of a rejected encoded form: a wrong length or an unrecognized command is a protocol
failure (R90, R93, R185 b), a malformed outgoing message is invalid caller input (R185 a;
log entry 17). -/
def DecodeReject.cause : DecodeReject → Cause
  | .unknownCommand _ => .protocol
  | .notTriplicated => .protocol
  | .commandLength _ => .protocol
  | .responseLength _ => .protocol
  | .prefixMissing => .validation
  | .checksumMissing => .validation
  | .checksumWrong => .validation

end Sys2Proof.Machine
end

