-- ==== Sys2Proof/Machine/Ops.lean ====
section
/-! DEFINITION. The shared operations over the state: delivering a result, raising a failure (the
"trap entry" of 60_exceptions.md R195, from which there is nothing to return, R197), and the host
primitives of 00_scope.md R18 with the environment's answers. -/

namespace Sys2Proof.Machine

/-- The operation ends and its output ports hold `o` (R38). -/
def deliver (o : Out) (s : State) : State := { s with out := o }

/-- Ending with a failure: OUTCOME and CAUSE are delivered, no state is saved, no mode changes, no
handler runs (R17, R195). Writes of steps already made stay (R64). -/
def raise (c : Cause) (s : State) : State := deliver (.fail c) s

/-- `LAST` after a receive that ended in `NO_MESSAGE` (R138). -/
def lastAfterFailure (last : Option Payload) : Option Payload :=
  if Config.rxFailKeepsLast then last else none

/-- Ending a receive with `NO_MESSAGE`, the sentinel of every failure and of the absence of data
(R138, R190). -/
def raiseNoMessage (c : Cause) (s : State) : State :=
  deliver (.noMessage c) { s with last := lastAfterFailure s.last }

/-- One more use of a host primitive. -/
def emit (e : Event) (s : State) : State := { s with trace := s.trace ++ [e] }

/-- `wait(t)`: changes no state (R18); only its position is kept (R226). -/
def wait (ms : Nat) (s : State) : State := emit (.wait ms) s

/-- The record as a whole (R18, R32). -/
def record (s : State) : Record :=
  { model := s.model, port := s.port, freq := s.freq, cfr := s.cfr }

/-- `Persist(record)`: the store's document is overwritten (R18, R68, R204). It has no failure
outcome (U19). -/
def persist (s : State) : State := emit (.persist (record s)) { s with store := some (record s) }

/-- What the next `TransportRead()` answers (R59). -/
def Env.nextRead (e : Env) : ReadAnswer :=
  match e.reads with
  | a :: _ => a
  | [] => Config.freeRead e.drawn

/-- The environment after that read: what was returned is removed (R59). -/
def Env.afterRead (e : Env) : Env :=
  match e.reads with
  | _ :: rest => { e with reads := rest }
  | [] => { e with drawn := e.drawn + 1 }

/-- What the next `TransportWrite(S)` answers (R60). -/
def Env.nextWrite (e : Env) : WriteAnswer :=
  match e.writes with
  | a :: _ => a
  | [] => Config.freeWrite e.drawn

/-- The environment after that write. -/
def Env.afterWrite (e : Env) : Env :=
  match e.writes with
  | _ :: rest => { e with writes := rest }
  | [] => { e with drawn := e.drawn + 1 }

/-- What the next `Idle()` answers; `true` is idle (R164). -/
def Env.nextIdle (e : Env) : Bool :=
  match e.idles with
  | a :: _ => a
  | [] => Config.freeIdle e.drawn

/-- The environment after that poll. -/
def Env.afterPoll (e : Env) : Env :=
  match e.idles with
  | _ :: rest => { e with idles := rest }
  | [] => { e with drawn := e.drawn + 1 }

/-- Whether a write was answered `ok` (R18). -/
def WriteAnswer.isOk : WriteAnswer → Bool
  | .ok => true
  | .error _ => false

/-- What of an offered sequence left the host: all of it, or on an error some prefix (R60, U6). -/
def WriteAnswer.sent (offered : Bytes) : WriteAnswer → Bytes
  | .ok => offered
  | .error n => offered.take n

/-- The state after `TransportRead()`; its answer is `s.env.nextRead` (R59). -/
def transportRead (s : State) : State :=
  emit (.read s.env.nextRead) { s with env := s.env.afterRead }

/-- The state after `TransportWrite(offered)`; its answer is `s.env.nextWrite` (R60). -/
def transportWrite (offered : Bytes) (s : State) : State :=
  let a := s.env.nextWrite
  emit (.write offered (WriteAnswer.sent offered a) (WriteAnswer.isOk a))
    { s with env := s.env.afterWrite }

/-- The state after `Idle()`; its answer is `s.env.nextIdle` (R164). -/
def poll (s : State) : State := emit (.poll s.env.nextIdle) { s with env := s.env.afterPoll }

/-- A direct register write by the host (R31 c, R97). -/
def writeCfr (w : CfrWrite) (c : Cfr) : Cfr :=
  match w with
  | .addr v => { c with addr := v }
  | .parity v => { c with parity := some v }
  | .baud v => { c with baud := some v }
  | .drate v => { c with drate := some v }
  | .chan v => { c with chan := v }
  | .tmode v => { c with tmode := v }
  | .iomode v => { c with iomode := v }
  | .wutime v => { c with wutime := v }
  | .fec v => { c with fec := v }
  | .txpwr v => { c with txpwr := v }

/-- The UART construction parameters "derived from the Configuration Record": port, baudrate, parity,
8 data bits, 1 stop bit (R201). Opening the transport is outside the model (R7 a). -/
def uartParams (s : State) : String × Option Baud × Nat × Option Parity × Nat :=
  (s.port, s.cfr.baud, 8, s.cfr.parity, 1)

end Sys2Proof.Machine
end

