-- ==== Sys2Proof/Machine/Checksum.lean ====
section
/-! DEFINITION. The Checksum engine: CSUM and CSVERIFY (42_checksum.md R120 to R127). -/

namespace Sys2Proof.Machine

/-- CSUM (R120): the 8-bit result on `CS`; total. -/
def execCsum (text : Bytes) (s : State) : Host.Outcome State Fault Refusal :=
  .next (deliver { Out.ok with cs := some (checksum text) } s)

/-- CSVERIFY (R121): the zero-sum test on `ZERO`; it never fails. -/
def execCsverify (text : Bytes) (s : State) : Host.Outcome State Fault Refusal :=
  .next (deliver { Out.ok with zero := some (zeroSum text) } s)

end Sys2Proof.Machine
end

