-- ==== Sys2Proof/Machine/Framer.lean ====
section
/-! DEFINITION. The Message Framer: TXFRAME, RXDEFRAME, the message frames, and the host procedures
Send and Receive (43_message_framer.md R130 to R146). -/

namespace Sys2Proof.Machine

/-- Whether messages carry a prefix: `CFR.TMODE = 1` (R26, R132). -/
def fixedMode (c : Cfr) : Bool := c.tmode == 1#1

/-- TXFRAME (R135). -/
def txframe (isMap useCs : Bool) (dstAddr : BitVec 16) (dstChan : Byte) (text : Bytes) (s : State) :
    State :=
  if isMap then
    deliver { Out.ok with msg := some (messageFrame (fixedMode s.cfr) useCs dstAddr dstChan text) } s
  else raise .validation s

/-- The text RXDEFRAME hands to `Parse`: all bytes, or all but the last when the checksum is enabled
(R139, R142). -/
def receivedText (useCs : Bool) (rxb : Bytes) : Bytes := if useCs then rxb.dropLast else rxb

/-- RXDEFRAME of bytes that are there: the zero-sum test, then the parse (R137, R139, R142, R194). -/
def deframe (useCs : Bool) (rxb : Bytes) (s : State) : State :=
  if useCs && !zeroSum rxb then raiseNoMessage .integrity s
  else
    match Config.parse (receivedText useCs rxb) with
    | none => raiseNoMessage .parse s
    | some p => deliver (.message p) { s with last := some p }

/-- RXDEFRAME (R136, R142): nothing buffered is `NO_MESSAGE` with cause `NONE`. -/
def rxdeframe (useCs : Bool) (rxb : Option Bytes) (s : State) : State :=
  match rxb with
  | none => raiseNoMessage .none s
  | some [] => raiseNoMessage .none s
  | some bs => deframe useCs bs s

def execTxframe (isMap useCs : Bool) (dstAddr : BitVec 16) (dstChan : Byte) (text : Bytes)
    (s : State) : Host.Outcome State Fault Refusal :=
  .next (txframe isMap useCs dstAddr dstChan text s)

def execRxdeframe (useCs : Bool) (rxb : Option Bytes) (s : State) :
    Host.Outcome State Fault Refusal :=
  .next (rxdeframe useCs rxb s)

/-- A message frame of transparent mode: the frame of R135 without prefix, on `MSG` (R75, R135;
log entry 18). -/
def execMsgTransparent (useCs : Bool) (text : Bytes) (s : State) :
    Host.Outcome State Fault Refusal :=
  .next (deliver { Out.ok with msg := some (messageFrame false useCs 0 0 text) } s)

/-- A message frame of fixed mode: the frame of R135 with its prefix, on `MSG` (R75, R135;
log entry 18). -/
def execMsgFixed (dstAddr : BitVec 16) (dstChan : Byte) (useCs : Bool) (text : Bytes) (s : State) :
    Host.Outcome State Fault Refusal :=
  .next (deliver { Out.ok with msg := some (messageFrame true useCs dstAddr dstChan text) } s)

/-- A message frame as received: RXDEFRAME of its bytes (R142, R143; log entry 18). -/
def execMsgReceived (useCs : Bool) (rxb : Bytes) (s : State) : Host.Outcome State Fault Refusal :=
  .next (rxdeframe useCs (some rxb) s)

/-- `Send` (R140): validation, serialization (a failure in it is `VALIDATION`, D10), TXFRAME, the
300 ms quiescence wait, the write. -/
def send (payload : Payload) (useCs : Bool) (dstAddr : BitVec 16) (dstChan : Byte) (s : State) :
    State :=
  if Config.isMap payload then
    match Config.serialize payload with
    | none => raise .validation s
    | some text =>
      let msg := messageFrame (fixedMode s.cfr) useCs dstAddr dstChan text
      let s1 := wait 300 s
      let s2 := transportWrite msg s1
      if WriteAnswer.isOk s1.env.nextWrite then deliver .ok s2 else raise .transport s2
  else raise .validation s

/-- `Receive` (R141): one read, then RXDEFRAME of what it returned. -/
def receive (useCs : Bool) (s : State) : State :=
  let s1 := transportRead s
  match s.env.nextRead with
  | .error => raiseNoMessage .transport s1
  | .nothing => rxdeframe useCs none s1
  | .bytes bs => rxdeframe useCs (some bs) s1

end Sys2Proof.Machine
end

