-- ==== Sys2Proof/Machine/Codec.lean ====
section
/-! DEFINITION. The Bitfield Codec: PACK_CFG, UNPACK_CFG, UNPACK_VER and the two response frames
(41_bitfield_codec.md R100 to R111). -/

namespace Sys2Proof.Machine

/-- PACK_CFG (R100 to R103): the frame on `FRAME6`, or `VALIDATION` for a `NULL` field. -/
def packCfg (hdr : Byte) (s : State) : State :=
  match packFrame hdr s.cfr with
  | some f => deliver { Out.ok with frame6 := some f } s
  | none => raise .validation s

/-- UNPACK_CFG (R104 to R106): all ten registers together; total. -/
def unpackCfg (resp : Frame6) (s : State) : State :=
  deliver .ok { s with cfr := unpackFields (cfgFields resp) }

/-- UNPACK_VER (R108, R109): results only; total; byte 0 is not read. -/
def unpackVer (resp : Frame4) (s : State) : State :=
  deliver { Out.ok with vband := some (versionBand resp.b1), vver := some resp.b2,
                        vfeat := some resp.b3 } s

def execPackCfg (hdr : Byte) (s : State) : Host.Outcome State Fault Refusal :=
  .next (packCfg hdr s)

def execUnpackCfg (resp6 : Frame6) (s : State) : Host.Outcome State Fault Refusal :=
  .next (unpackCfg resp6 s)

def execUnpackVer (resp4 : Frame4) (s : State) : Host.Outcome State Fault Refusal :=
  .next (unpackVer resp4 s)

/-- A configuration response: UNPACK_CFG of its six bytes, the rule the table names for the row (R73,
R104; log entry 18). -/
def execRsp6ConfigResponse (header : Byte) (fields : CfgFields) (s : State) :
    Host.Outcome State Fault Refusal :=
  .next (unpackCfg (cfgFrame header fields) s)

/-- A version response: UNPACK_VER of its four bytes, the rule the table names for the row (R74, R108;
log entry 18). -/
def execRsp4VersionResponse (header freqCode version features : Byte) (s : State) :
    Host.Outcome State Fault Refusal :=
  .next (unpackVer ⟨header, freqCode, version, features⟩ s)

/-- `OP = 111`: `FAIL`, cause `PROTOCOL`, no state change (R92). -/
def execReservedOp (s : State) : Host.Outcome State Fault Refusal :=
  .next (raise .protocol s)

end Sys2Proof.Machine
end

