-- ==== Sys2Proof/Machine/Protocol.lean ====
section
/-! DEFINITION. The Command Protocol and the mode state machine: setMode, the five register-level
commands, the idle-wait loop (44_command_protocol.md R150 to R166). -/

namespace Sys2Proof.Machine

/-- `setMode(m)`: the lines are driven, `MODE` is written, 50 ms settle, every time (R151, D26). -/
def setMode (m : Mode) (s : State) : State :=
  wait 50 { emit (.setLines m) s with mode := m }

/-- Step 2 of a command: its frame. A set-config frame is PACK_CFG with the command's header; the
other three are the command byte three times (R152, R153). -/
def commandFrame (c : Command) (cfr : Cfr) : Option Bytes :=
  match c with
  | .setConfigPwrDwnSave => (packFrame 0xC0#8 cfr).map Frame6.toBytes
  | .setConfigPwrDwnNoSave => (packFrame 0xC2#8 cfr).map Frame6.toBytes
  | .getConfig => some [0xC1#8, 0xC1#8, 0xC1#8]
  | .getVersion => some [0xC3#8, 0xC3#8, 0xC3#8]
  | .reset => some [0xC4#8, 0xC4#8, 0xC4#8]

/-- The response contract of `getVersion`: exactly 4 bytes, else `PROTOCOL` without a decode (R156). -/
def respondVersion (resp : Bytes) (s : State) : State :=
  match resp with
  | [b0, b1, b2, b3] => unpackVer ⟨b0, b1, b2, b3⟩ s
  | _ => raise .protocol s

/-- The response contract of `getConfig` and the set-config commands: exactly 6 bytes, else
`PROTOCOL` with CFR unchanged; then UNPACK_CFG, then Persist of the new record (R157, R158). -/
def respondConfig (resp : Bytes) (s : State) : State :=
  match resp with
  | [b0, b1, b2, b3, b4, b5] => persist (unpackCfg ⟨b0, b1, b2, b3, b4, b5⟩ s)
  | _ => raise .protocol s

/-- The response contract of a command (R155 to R159). `reset` reads no response (R160). -/
def respond (c : Command) (resp : Bytes) (s : State) : State :=
  match c with
  | .getVersion => respondVersion resp s
  | .getConfig => respondConfig resp s
  | .setConfigPwrDwnSave => respondConfig resp s
  | .setConfigPwrDwnNoSave => respondConfig resp s
  | .reset => deliver .ok s

/-- Step 4: one read, 50 ms settle, the contract; `none` counts as length 0 (R155). -/
def readResponse (c : Command) (s : State) : State :=
  let s1 := wait 50 (transportRead s)
  match s.env.nextRead with
  | .error => raise .transport s1
  | .nothing => respond c [] s1
  | .bytes bs => respond c bs s1

/-- The 50 ms settle after a command frame; after a failed write it is unsaid whether the wait is made
(R154, U20). -/
def settleAfterWrite (ok : Bool) (s : State) : State :=
  if ok || Config.waitAfterWriteError then wait 50 s else s

/-- Steps 3 and 4: the write with its settle; for `reset` nothing is read, for the others the response
(R154, R155, R160). -/
def exchange (c : Command) (frame : Bytes) (s : State) : State :=
  let ok := WriteAnswer.isOk s.env.nextWrite
  let s1 := settleAfterWrite ok (transportWrite frame s)
  if ok then
    match c with
    | .reset => deliver .ok s1
    | _ => readResponse c s1
  else raise .transport s1

/-- A register-level command as one procedure (R150, R166): force `sleep`, build the frame, exchange.
An early exit leaves what the steps before it did (R161). -/
def runCommand (c : Command) (s : State) : State :=
  let s1 := setMode .sleep s
  match commandFrame c s1.cfr with
  | none => raise .validation s1
  | some frame => exchange c frame s1

/-- `setConfigPwrDwnSave` (R158): the frame on the wire is PACK_CFG of CFR (R152). -/
def execSetConfigPwrDwnSave (s : State) : Host.Outcome State Fault Refusal :=
  .next (runCommand .setConfigPwrDwnSave s)

/-- `setConfigPwrDwnNoSave` (R159). -/
def execSetConfigPwrDwnNoSave (s : State) : Host.Outcome State Fault Refusal :=
  .next (runCommand .setConfigPwrDwnNoSave s)

/-- `getConfig` (R157). -/
def execGetConfig (s : State) : Host.Outcome State Fault Refusal :=
  .next (runCommand .getConfig s)

/-- `getVersion` (R156). -/
def execGetVersion (s : State) : Host.Outcome State Fault Refusal :=
  .next (runCommand .getVersion s)

/-- `reset` (R160): a reset of the module, not of the block (R213). -/
def execReset (s : State) : Host.Outcome State Fault Refusal :=
  .next (runCommand .reset s)

/-- The command of a command byte (R86). -/
def commandOf (k : Byte) : Option Command :=
  if k = 0xC0#8 then some .setConfigPwrDwnSave
  else if k = 0xC1#8 then some .getConfig
  else if k = 0xC2#8 then some .setConfigPwrDwnNoSave
  else if k = 0xC3#8 then some .getVersion
  else if k = 0xC4#8 then some .reset
  else none

/-- `Command(k)` for any request: an unrecognized command is tested before anything is touched (R162,
R166). -/
def requestCommand (k : Byte) (s : State) : State :=
  match commandOf k with
  | some c => runCommand c s
  | none => raise .protocol s

/-- The idle-wait loop with `n` polls left: poll, return when idle, else wait 10 ms; expiry is silent
(R164, D28). -/
def idlePolls : Nat → State → State
  | 0, s => s
  | n + 1, s => if s.env.nextIdle then poll s else idlePolls n (wait 10 (poll s))

/-- The idle-wait loop: at most 10 polls, its two exits alike to the caller (R164). -/
def idleWait (s : State) : State := deliver .ok (idlePolls 10 s)

end Sys2Proof.Machine
end

