-- ==== Sys2Proof/Machine/Startup.lean ====
section
/-! DEFINITION. The Configuration Model and Startup: the frequency derivation, `start` and
`setTransmissionMode` (45_config_model.md R170 to R181). -/

namespace Sys2Proof.Machine

/-- The channel clamp of `start`: above 31 becomes 31 (R175). -/
def clampChannel (c : Byte) : Byte := if c.toNat > 31 then 31 else c

/-- `FREQ` from a band and a channel: the sum, clamped to the band's maximum (R170). -/
def deriveFreq (b : BandLimits) (c : Byte) : Nat :=
  if b.min + c.toNat > b.max then b.max else b.min + c.toNat

/-- The channel after the derivation: when clamped, the one that reproduces the maximum (R171). -/
def deriveChannel (b : BandLimits) (c : Byte) : Byte :=
  if b.min + c.toNat > b.max then BitVec.ofNat 8 (b.max - b.min) else c

/-- The band `start` uses: the model's, or the default band for a tag outside the known table (R175,
R176). -/
def startBand (model : String) : BandLimits := (Config.band model).getD Config.defaultBand

/-- The registers as `start` leaves them before its command: the override, the forced defaults, the
two channel clamps (R175 to R178). -/
def startCfr (address : BitVec 16) (channel : Byte) (transmode : BitVec 1) (s : State) : Cfr :=
  { s.cfr with
    addr := address
    tmode := transmode
    baud := some (s.cfr.baud.getD Config.cfgDefault.baud)
    parity := some (s.cfr.parity.getD Config.cfgDefault.parity)
    drate := some (s.cfr.drate.getD Config.cfgDefault.drate)
    chan := deriveChannel (startBand s.model) (clampChannel channel) }

/-- The record as `start` leaves it before its command. `MODEL` is not changed (R176, R178, D21). -/
def startRecord (address : BitVec 16) (channel : Byte) (transmode : BitVec 1) (s : State) : State :=
  { s with
    cfr := startCfr address channel transmode s
    port := if Config.portValid s.port then s.port else Config.cfgDefault.port
    freq := deriveFreq (startBand s.model) (clampChannel channel) }

/-- `start` (R178): the record, then the save command, whose outcome is its own. -/
def start (address : BitVec 16) (channel : Byte) (transmode : BitVec 1) (s : State) : State :=
  runCommand .setConfigPwrDwnSave (startRecord address channel transmode s)

/-- `setTransmissionMode` (R179): nothing when the mode is the current one, else one register write
and a save. -/
def setTransmissionMode (m : BitVec 1) (s : State) : State :=
  if m = s.cfr.tmode then deliver .ok s
  else runCommand .setConfigPwrDwnSave { s with cfr := { s.cfr with tmode := m } }

end Sys2Proof.Machine
end

