-- ==== Sys2Proof/Machine/HostCalls.lean ====
section
/-! DEFINITION. The host procedures that are no row of the opcode table, and what a request does whose
encoded form the decoder rejects (30_encoding.md R85, R90, R93). -/

namespace Sys2Proof.Machine

/-- A host procedure. `load` is refused: its effect is not described (R180, U19). -/
def runHostCall (h : HostCall) (s : State) : Host.Outcome State Fault Refusal :=
  match h with
  | .command k => .next (requestCommand k s)
  | .setMode m => .next (deliver .ok (setMode m s))
  | .send p useCs addr chan => .next (send p useCs addr chan s)
  | .receive useCs => .next (receive useCs s)
  | .start address channel transmode => .next (start address channel transmode s)
  | .setTransmissionMode m => .next (setTransmissionMode m s)
  | .idleWait => .next (idleWait s)
  | .writeCfr w => .next (deliver .ok { s with cfr := writeCfr w s.cfr })
  | .load => .refused .loadCallUnsaid

/-- A request whose encoded form is no instruction fails with the cause of its rejection and touches
nothing (R90, R162, R185; log entry 17). -/
def rejectWord (e : DecodeReject) (s : State) : Host.Outcome State Fault Refusal :=
  .next (raise (DecodeReject.cause e) s)

end Sys2Proof.Machine
end

