-- ==== Sys2Proof/Machine/Dispatch.lean ====
section
/-! DEFINITION. The meaning of each instruction: one arm per constructor of `Instr`. -/

namespace Sys2Proof.Machine

def exec (i : Instr) (s : State) : Host.Outcome State Fault Refusal :=
  match i with
  | .setConfigPwrDwnSave _ => Sys2Proof.Machine.execSetConfigPwrDwnSave s
  | .setConfigPwrDwnNoSave _ => Sys2Proof.Machine.execSetConfigPwrDwnNoSave s
  | .getConfig => Sys2Proof.Machine.execGetConfig s
  | .getVersion => Sys2Proof.Machine.execGetVersion s
  | .reset => Sys2Proof.Machine.execReset s
  | .rsp6ConfigResponse header fields => Sys2Proof.Machine.execRsp6ConfigResponse header fields s
  | .rsp4VersionResponse h q v e => Sys2Proof.Machine.execRsp4VersionResponse h q v e s
  | .msgTransparent useCs text => Sys2Proof.Machine.execMsgTransparent useCs text s
  | .msgFixed dstAddr dstChan useCs text => Sys2Proof.Machine.execMsgFixed dstAddr dstChan useCs text s
  | .msgReceived useCs rxb => Sys2Proof.Machine.execMsgReceived useCs rxb s
  | .packCfg hdr => Sys2Proof.Machine.execPackCfg hdr s
  | .unpackCfg resp6 => Sys2Proof.Machine.execUnpackCfg resp6 s
  | .unpackVer resp4 => Sys2Proof.Machine.execUnpackVer resp4 s
  | .csum text => Sys2Proof.Machine.execCsum text s
  | .csverify text => Sys2Proof.Machine.execCsverify text s
  | .txframe isMap useCs dstAddr dstChan text => Sys2Proof.Machine.execTxframe isMap useCs dstAddr dstChan text s
  | .rxdeframe useCs rxb => Sys2Proof.Machine.execRxdeframe useCs rxb s
  | .reservedOp => Sys2Proof.Machine.execReservedOp s

end Sys2Proof.Machine
end

