-- ==== Sys2Proof/Machine/Step.lean ====
section
/-! DEFINITION. One step: the host's next request is taken and run to its end (10_state.md R40,
20_memory.md R63). -/

namespace Sys2Proof.Machine

/-- The state with the first request taken. -/
def takeRequest (rest : List Request) (s : State) : State := { s with requests := rest }

/-- A request: an instruction word is decoded and executed, a host procedure is run. -/
def runRequest (r : Request) (s : State) : Host.Outcome State Fault Refusal :=
  match r with
  | .word e =>
    match decode e with
    | .ok i => exec i s
    | .error r => rejectWord r s
  | .call h => runHostCall h s

/-- One step. With no request pending nothing happens: nothing asynchronous reaches the block or the
host (R40, R193; log entry 16). -/
def step (s : State) : Host.Outcome State Fault Refusal :=
  match s.requests with
  | [] => .next s
  | r :: rest => runRequest r (takeRequest rest s)

/-- `s` with a word of spec/opcode_table.json as its next request, before those already pending
(log entry 16). -/
def State.withFetchWord (s : State) (nbits w : Nat) : State :=
  { s with requests := .word (tableWord nbits w) :: s.requests }

end Sys2Proof.Machine
end

