-- ==== Sys2Proof/Safety.lean ====
section
/-! DEFINITION. What the claims mean by a good state and a good run: the invariant of the record and
of the host's bookkeeping, the discipline of writes to the transport, and the classes of instructions
the statements speak of. -/

namespace Sys2Proof

open Sys2Proof.Machine

/-- The mode an event asserts on the mode-select lines. -/
def Event.assertedMode : Event → Option Mode
  | .setLines m => some m
  | _ => none

/-- The record an event hands to the persistent store. -/
def Event.persistedRecord : Event → Option Record
  | .persist r => some r
  | _ => none

/-- The mode last asserted in a trace, if any was. -/
def lastAsserted (t : List Event) : Option Mode := (t.filterMap Event.assertedMode).getLast?

/-- The record last persisted in a trace, if any was. -/
def lastPersisted (t : List Event) : Option Record := (t.filterMap Event.persistedRecord).getLast?

/-- What every step keeps. -/
structure GoodState (s : State) : Prop where
  /-- `CFR.BAUD` is never `NULL`: its eight symbols fill the eight codes (R23). -/
  baud_present : s.cfr.baud ≠ none
  /-- `MODE` is the mode last asserted, once one was (R37, R151). -/
  mode_asserted : ∀ m, lastAsserted s.trace = some m → s.mode = m
  /-- The store's document is the record last persisted, once one was (R68, R204). -/
  store_persisted : ∀ r, lastPersisted s.trace = some r → s.store = some r
  /-- `LAST` is `NULL` or a payload that `Parse` returned (R36). -/
  last_parsed : ∀ p, s.last = some p → ∃ text, Config.parse text = some p

/-- The events before a write prepare it: the `sleep` mode was just asserted and settled (a command
frame, R150, R217), or the 300 ms quiescence wait was just made (a message, R140, R222). -/
def Prepared (before : List Event) : Prop :=
  (∃ q, before = q ++ [.setLines .sleep, .wait 50]) ∨ (∃ q, before = q ++ [.wait 300])

/-- Every write to the transport in a trace was prepared. -/
def WritesPrepared (t : List Event) : Prop :=
  ∀ before offered sent ok after, t = before ++ .write offered sent ok :: after → Prepared before

/-- The milliseconds of wait in a trace (R222 to R226). -/
def waited : List Event → Nat
  | [] => 0
  | .wait ms :: rest => ms + waited rest
  | _ :: rest => waited rest

/-- The five wire commands (R86). -/
def isCommand : Instr → Bool
  | .setConfigPwrDwnSave _ => true
  | .setConfigPwrDwnNoSave _ => true
  | .getConfig => true
  | .getVersion => true
  | .reset => true
  | .rsp6ConfigResponse _ _ => false
  | .rsp4VersionResponse _ _ _ _ => false
  | .msgTransparent _ _ => false
  | .msgFixed _ _ _ _ => false
  | .msgReceived _ _ => false
  | .packCfg _ => false
  | .unpackCfg _ => false
  | .unpackVer _ => false
  | .csum _ => false
  | .csverify _ => false
  | .txframe _ _ _ _ _ => false
  | .rxdeframe _ _ => false
  | .reservedOp => false

/-- The instructions whose rule writes CFR outside the command protocol: the decode of a 6-byte
response (R104, R31 c). -/
def decodesConfig : Instr → Bool
  | .unpackCfg _ => true
  | .rsp6ConfigResponse _ _ => true
  | _ => false

/-- The instructions whose rule writes `LAST` (R36, R142). -/
def deframesMessage : Instr → Bool
  | .rxdeframe _ _ => true
  | .msgReceived _ _ => true
  | _ => false

/-- The code in byte 3 of a response is that of a symbol in each of its three fields (R76, R88). -/
def AllCodesPresent (r : Frame6) : Prop :=
  (∃ p, (Config.parityCode p).toNat = r.b3.toNat / 64) ∧
  (∃ b, (Config.baudCode b).toNat = r.b3.toNat / 8 % 8) ∧
  (∃ d, (Config.drateCode d).toNat = r.b3.toNat % 8)

end Sys2Proof
end

