-- ==== Sys2Proof/Certificates/Slice0/Obligations.lean ====
section
/-! DEFINITION. The statements put to the provers, each from the numbered rules its docstring cites.
An equation `exec i s = .next { s with … }` says at once that the instruction completes, what it
writes, and that every other field of the state is left as it was. -/

open Sys2Proof
open Sys2Proof.Machine

/-! ### Reset, invariants, the step -/

/-- R46, R210: after reset CFR and the host fields hold `CFG_DEFAULT`, whose values are legal for
their fields, and `LAST` is `NULL`. (`MODE` and the store are unspecified there and nothing is said of
them.) -/
def Obligations.ResetHoldsLegalDefaults : Prop :=
  State.reset.cfr =
    { addr := Config.cfgDefault.addr, parity := some Config.cfgDefault.parity,
      baud := some Config.cfgDefault.baud, drate := some Config.cfgDefault.drate,
      chan := Config.cfgDefault.chan, tmode := Config.cfgDefault.tmode,
      iomode := Config.cfgDefault.iomode, wutime := Config.cfgDefault.wutime,
      fec := Config.cfgDefault.fec, txpwr := Config.cfgDefault.txpwr } ∧
  State.reset.model = Config.cfgDefault.model ∧ State.reset.port = Config.cfgDefault.port ∧
  State.reset.freq = Config.cfgDefault.freq ∧ State.reset.last = none ∧
  State.reset.cfr.chan.toNat ≤ 31 ∧ (Config.band State.reset.model).isSome = true ∧
  Config.portValid State.reset.port = true

/-- The invariant and the discipline of writes hold at reset (R46, R212). -/
def Obligations.ResetMeetsInvariants : Prop :=
  GoodState State.reset ∧ WritesPrepared State.reset.trace

/-- Every step keeps the invariant: `CFR.BAUD` is not `NULL` (R23), `MODE` is the mode last asserted
(R37), the store is the record last persisted (R68), `LAST` is `NULL` or a parsed payload (R36). -/
def Obligations.StepKeepsInvariant : Prop :=
  ∀ s t, GoodState s → step s = .next t → GoodState t

/-- R150, R217, R222: every step keeps that each write to the transport came right after `sleep` was
forced and settled, or right after the 300 ms quiescence wait. -/
def Obligations.StepKeepsWritesPrepared : Prop :=
  ∀ s t, WritesPrepared s.trace → step s = .next t → WritesPrepared t.trace

/-- R17: no failure is fatal. A step answers a next state, but for the load call of the persistent
store, whose effect is not described (R180, U19). -/
def Obligations.StepStopsOnlyAtTheLoadCall : Prop :=
  ∀ s, (∃ t, step s = .next t) ∨
    (∃ rest, s.requests = .call .load :: rest ∧ step s = .refused .loadCallUnsaid)

/-- R40, R63: a step takes exactly the first request and leaves the others in their order; the uses of
host primitives only grow. -/
def Obligations.StepTakesOneRequestAndTraceGrows : Prop :=
  ∀ s t, step s = .next t → t.requests = s.requests.tail ∧ s.trace <+: t.trace

/-- A request that decodes to an instruction is executed as that instruction on the state with the
request taken; a word of the opcode table placed by `withFetchWord` is the one executed. -/
def Obligations.StepExecutesTheDecodedInstruction : Prop :=
  (∀ s e rest i, s.requests = .word e :: rest → decode e = .ok i →
    step s = exec i (takeRequest rest s)) ∧
  (∀ s nbits w i, decodeTableWord nbits w = some i → step (s.withFetchWord nbits w) = exec i s)

/-! ### Encodings -/

/-- Decoding the encoding of any instruction, with every operand at every value, gives it back (R70 to
R75, R86, R87). -/
def Obligations.DecodeOfEncodeIsTheInstruction : Prop :=
  ∀ i, decode (encode i) = .ok i

/-- Each encoded form has one meaning: what decodes to an instruction is that instruction's encoding,
bit for bit for a frame, and for a block operation on the port `OP` (R70 to R75, R87). -/
def Obligations.EncodeOfDecodeIsTheFrame : Prop :=
  ∀ e i, decode e = .ok i →
    match e with
    | .op sel _ => ∃ ports, encode i = .op sel ports ∧ decode (.op sel ports) = .ok i
    | _ => encode i = e

/-- R87 and the port table of R38: each value of `OP` selects its operation, which reads the ports R38
gives it and no other. -/
def Obligations.OperationSelectCodes : Prop :=
  ∀ p : Ports,
    decode (.op 0b000#3 p) = .ok (.packCfg p.hdr) ∧
    decode (.op 0b001#3 p) = .ok (.unpackCfg p.resp6) ∧
    decode (.op 0b010#3 p) = .ok (.unpackVer p.resp4) ∧
    decode (.op 0b011#3 p) = .ok (.csum p.text) ∧
    decode (.op 0b100#3 p) = .ok (.csverify p.text) ∧
    decode (.op 0b101#3 p) = .ok (.txframe p.isMap p.useCs p.dstAddr p.dstChan p.text) ∧
    decode (.op 0b110#3 p) = .ok (.rxdeframe p.useCs p.rxb) ∧
    decode (.op 0b111#3 p) = .ok .reservedOp

/-- A few words written out from the formats of R71 to R75 and R87 decode as they should. The first four
are numbers of the opcode table, and how a number stands for a frame (byte 0 at the top, the format told
by the number of bits, 8 bits below 8 a value of `OP`) is the model's choice, log entry 15, not the
rules'; the last is a frame written byte by byte. -/
def Obligations.SpecWordsDecode : Prop :=
  decodeTableWord 48 0xC000061A0644 =
    some (.setConfigPwrDwnSave ⟨0x0006#16, 0b00#2, 0b011#3, 0b010#3, 6#8, 0#1, 1#1, 0#3, 1#1, 0#2⟩) ∧
  decodeTableWord 24 0xC1C1C1 = some .getConfig ∧
  decodeTableWord 32 0xC3324514 = some (.rsp4VersionResponse 0xC3#8 0x32#8 0x45#8 0x14#8) ∧
  decodeTableWord 8 7 = some .reservedOp ∧
  decode (.outMessage true true [0x01#8, 0x02#8, 0x17#8, 0x7B#8, 0x7D#8, 0x08#8]) =
    .ok (.msgFixed 0x0102#16 0x17#8 true [0x7B#8, 0x7D#8])

/-- R90, R162: a command byte that is none of the five ends with `FAIL`, cause `PROTOCOL`, and touches
neither the mode nor the transport. The same byte three times, presented as a frame, does the same; that
a frame presented as a request does so is the model's choice, log entry 17. -/
def Obligations.UnrecognizedCommandFails : Prop :=
  ∀ (s : State) (k : Byte) (rest : List Request),
    k ≠ 0xC0#8 → k ≠ 0xC1#8 → k ≠ 0xC2#8 → k ≠ 0xC3#8 → k ≠ 0xC4#8 →
    s.requests = .call (.command k) :: rest ∨
      s.requests = .word (.commandFrame [k, k, k]) :: rest →
    step s = .next { s with requests := rest, out := { outcome := some .fail, cause := .protocol } }

/-- R72, R90, R93: a command frame that is none of the three triplicated commands and no six bytes headed
by `0xC0` or `0xC2` (not triplicated, of a wrong length, `C0 C0 C0`, six bytes with another header) ends
with `FAIL`, cause `PROTOCOL`, and touches nothing. That such a frame presented as a request ends so is
the model's choice, log entry 17. -/
def Obligations.CommandFrameOfNoCommandFails : Prop :=
  ∀ (s : State) (bs : Bytes) (rest : List Request),
    s.requests = .word (.commandFrame bs) :: rest →
    bs ≠ [0xC1#8, 0xC1#8, 0xC1#8] → bs ≠ [0xC3#8, 0xC3#8, 0xC3#8] → bs ≠ [0xC4#8, 0xC4#8, 0xC4#8] →
    (bs.length = 6 → bs.head? ≠ some 0xC0#8 ∧ bs.head? ≠ some 0xC2#8) →
    step s = .next { s with requests := rest, out := { outcome := some .fail, cause := .protocol } }

/-- R162, R166: `Command(c)` of one of the five command bytes runs that command (R86), whatever the
bytes the wire row of a set-config command carries. -/
def Obligations.CommandCallRunsTheCommand : Prop :=
  ∀ (s : State) (k : Byte) (rest : List Request) (f : CfgFields),
    s.requests = .call (.command k) :: rest →
    (k = 0xC0#8 → step s = exec (.setConfigPwrDwnSave f) (takeRequest rest s)) ∧
    (k = 0xC1#8 → step s = exec .getConfig (takeRequest rest s)) ∧
    (k = 0xC2#8 → step s = exec (.setConfigPwrDwnNoSave f) (takeRequest rest s)) ∧
    (k = 0xC3#8 → step s = exec .getVersion (takeRequest rest s)) ∧
    (k = 0xC4#8 → step s = exec .reset (takeRequest rest s))

/-- R93: a response frame that is neither 6 nor 4 bytes long is a protocol failure, and nothing is
decoded. -/
def Obligations.ResponseFrameOfOtherLengthFails : Prop :=
  ∀ (s : State) (bs : Bytes) (rest : List Request),
    s.requests = .word (.response bs) :: rest → bs.length ≠ 6 → bs.length ≠ 4 →
    step s = .next { s with requests := rest, out := { outcome := some .fail, cause := .protocol } }

/-! ### The Bitfield Codec -/

/-- R100 to R103: PACK_CFG with no `NULL` in `PARITY`, `BAUD`, `DRATE` delivers the frame whose bytes
are the header, the address high and low, the three codes, the channel whole, and the five option
fields, and writes no state; with a `NULL` it ends with `FAIL`, cause `VALIDATION`, and no frame. -/
def Obligations.PackCfgBuildsTheFrame : Prop :=
  ∀ (hdr : Byte) (ports : Ports) (s : State),
    decode (.op 0b000#3 ports) = .ok (.packCfg ports.hdr) ∧
    (∀ p b d, s.cfr.parity = some p → s.cfr.baud = some b → s.cfr.drate = some d →
      ∃ f : Frame6,
        exec (.packCfg hdr) s =
          .next { s with out := { outcome := some .ok, frame6 := some f } } ∧
        f.b0 = hdr ∧ f.b1.toNat = s.cfr.addr.toNat / 256 ∧ f.b2.toNat = s.cfr.addr.toNat % 256 ∧
        f.b3.toNat = (Config.parityCode p).toNat * 64 + (Config.baudCode b).toNat * 8 +
          (Config.drateCode d).toNat ∧
        f.b4 = s.cfr.chan ∧
        f.b5.toNat = s.cfr.tmode.toNat * 128 + s.cfr.iomode.toNat * 64 + s.cfr.wutime.toNat * 8 +
          s.cfr.fec.toNat * 4 + s.cfr.txpwr.toNat) ∧
    (s.cfr.parity = none ∨ s.cfr.baud = none ∨ s.cfr.drate = none →
      exec (.packCfg hdr) s =
        .next { s with out := { outcome := some .fail, cause := .validation } })

/-- The source's scenario 1 completed (95_test_vectors.md S1, K1, K2, K11, K14): with parity 8N1,
baudrate 9600, datarate 2.4k, address 6, options 0 1 0 1 0, every header and every channel, the frame is
`hh 00 06 1A cc 44`. -/
def Obligations.PackCfgScenarioOne : Prop :=
  ∀ (hdr chan : Byte) (s : State),
    s.cfr = ⟨0x0006#16, some .p8N1, some .b9600, some .d2k4, chan, 0#1, 1#1, 0#3, 1#1, 0#2⟩ →
    exec (.packCfg hdr) s =
      .next { s with
        out := { outcome := some .ok, frame6 := some ⟨hdr, 0x00#8, 0x06#8, 0x1A#8, chan, 0x44#8⟩ } }

/-- R104 to R106: UNPACK_CFG succeeds on every 6-byte operand and writes all ten registers and nothing
else: the address big-endian, each of parity, baudrate and datarate the symbol of its code and `NULL`
exactly when no symbol has it, the channel whole, the option fields by position. Byte 0 is not read. -/
def Obligations.UnpackCfgWritesTheTenRegisters : Prop :=
  ∀ (r : Frame6) (ports : Ports) (s : State), ∃ c : Cfr,
    decode (.op 0b001#3 ports) = .ok (.unpackCfg ports.resp6) ∧
    exec (.unpackCfg r) s = .next { s with cfr := c, out := { outcome := some .ok } } ∧
    c.addr.toNat = r.b1.toNat * 256 + r.b2.toNat ∧
    (∀ p, c.parity = some p ↔ (Config.parityCode p).toNat = r.b3.toNat / 64) ∧
    (∀ b, c.baud = some b ↔ (Config.baudCode b).toNat = r.b3.toNat / 8 % 8) ∧
    (∀ d, c.drate = some d ↔ (Config.drateCode d).toNat = r.b3.toNat % 8) ∧
    c.chan = r.b4 ∧
    c.tmode.toNat = r.b5.toNat / 128 ∧ c.iomode.toNat = r.b5.toNat / 64 % 2 ∧
    c.wutime.toNat = r.b5.toNat / 8 % 8 ∧ c.fec.toNat = r.b5.toNat / 4 % 2 ∧
    c.txpwr.toNat = r.b5.toNat % 4

/-- R73, R91, R104 (the table's row RSP6): a configuration response writes into CFR the fields it
carries, whatever its header byte, and nothing else. -/
def Obligations.ConfigResponseDecodesIntoCfr : Prop :=
  ∀ (h : Byte) (f : CfgFields) (s : State), ∃ c : Cfr,
    exec (.rsp6ConfigResponse h f) s = .next { s with cfr := c, out := { outcome := some .ok } } ∧
    c.addr = f.addr ∧ (∀ p, c.parity = some p ↔ Config.parityCode p = f.parity) ∧
    (∀ b, c.baud = some b ↔ Config.baudCode b = f.baud) ∧
    (∀ d, c.drate = some d ↔ Config.drateCode d = f.drate) ∧
    c.chan = f.chan ∧ c.tmode = f.tmode ∧ c.iomode = f.iomode ∧ c.wutime = f.wutime ∧
    c.fec = f.fec ∧ c.txpwr = f.txpwr

/-- R108, R109 (and the table's row RSP4): UNPACK_VER succeeds on every 4-byte operand, delivers the
band of byte 1 or `UNKNOWN`, and bytes 2 and 3 raw, and writes no state; byte 0 is not read. That the row RSP4 presented as an
instruction is this decode is log entry 18 (DEDUCED). -/
def Obligations.UnpackVerDeliversTheVersion : Prop :=
  ∀ (h q v e : Byte) (ports : Ports) (s : State),
    let t : State := { s with
      out := { outcome := some .ok,
               vband := some (match Config.freqBand q with
                 | some b => .known b
                 | none => .unknown),
               vver := some v, vfeat := some e } }
    decode (.op 0b010#3 ports) = .ok (.unpackVer ports.resp4) ∧
    exec (.unpackVer ⟨h, q, v, e⟩) s = .next t ∧ exec (.rsp4VersionResponse h q v e) s = .next t

/-- R44, R107: a record with no `NULL` comes back whole: PACK_CFG delivers a frame, and UNPACK_CFG of
that frame in any state leaves every CFR register equal to the packed one, for every header and every
channel. -/
def Obligations.UnpackOfPackRestoresEveryRegister : Prop :=
  ∀ (hdr : Byte) (s : State),
    s.cfr.parity ≠ none → s.cfr.baud ≠ none → s.cfr.drate ≠ none →
    ∃ f : Frame6,
      exec (.packCfg hdr) s =
        .next { s with out := { outcome := some .ok, frame6 := some f } } ∧
      ∀ u : State,
        exec (.unpackCfg f) u = .next { u with cfr := s.cfr, out := { outcome := some .ok } }

/-- R111: after UNPACK_CFG of `R`, PACK_CFG with `R`'s header returns `R` exactly when byte 3 holds no
absent code; when it holds one, PACK_CFG ends with `VALIDATION`. -/
def Obligations.PackOfUnpackRestoresTheBytes : Prop :=
  ∀ (r : Frame6) (s t : State), exec (.unpackCfg r) s = .next t →
    (AllCodesPresent r →
      exec (.packCfg r.b0) t =
        .next { t with out := { outcome := some .ok, frame6 := some r } }) ∧
    (¬ AllCodesPresent r →
      exec (.packCfg r.b0) t =
        .next { t with out := { outcome := some .fail, cause := .validation } })

/-- R22 to R24, R105: exactly one parity code and exactly two datarate codes are those of no symbol,
and every baudrate code is that of one, whichever injective tables the implementation has. -/
def Obligations.AbsentCodesAreOneParityTwoDatarates : Prop :=
  (∃! c, parityInv c = none) ∧ (∀ c, ∃ b, baudInv c = some b) ∧
  (∃ c d, c ≠ d ∧ ∀ x, drateInv x = none ↔ x = c ∨ x = d)

/-- R92: `OP = 111` ends with `FAIL`, cause `PROTOCOL`, and changes no state. -/
def Obligations.ReservedOperationFails : Prop :=
  ∀ s : State,
    exec .reservedOp s = .next { s with out := { outcome := some .fail, cause := .protocol } }

/-! ### The Checksum engine -/

/-- R120, R123, R127: CSUM succeeds on every byte sequence and delivers the two's complement of the sum
modulo 256, writing no state. -/
def Obligations.CsumIsTheTwosComplementOfTheSum : Prop :=
  ∀ (text : Bytes) (ports : Ports) (s : State), ∃ c : Byte,
    decode (.op 0b011#3 ports) = .ok (.csum ports.text) ∧
    exec (.csum text) s = .next { s with out := { outcome := some .ok, cs := some c } } ∧
    c.toNat = (256 - (text.map BitVec.toNat).sum % 256) % 256

/-- R121: CSVERIFY never fails and reports whether the sum is zero modulo 256, writing no state. -/
def Obligations.CsverifyReportsTheZeroSum : Prop :=
  ∀ (text : Bytes) (ports : Ports) (s : State),
    decode (.op 0b100#3 ports) = .ok (.csverify ports.text) ∧
    exec (.csverify text) s =
      .next { s with
        out := { outcome := some .ok,
                 zero := some (decide ((text.map BitVec.toNat).sum % 256 = 0)) } }

/-- R122: for every byte sequence `T`, CSVERIFY of `T` followed by `CSUM(T)` gives true. -/
def Obligations.ChecksumIsSelfInverting : Prop :=
  ∀ (text : Bytes) (s u : State), ∃ c : Byte,
    exec (.csum text) s = .next { s with out := { outcome := some .ok, cs := some c } } ∧
    exec (.csverify (text ++ [c])) u =
      .next { u with out := { outcome := some .ok, zero := some true } }

/-- R126: the zero-sum test of a sequence of at least one byte accepts exactly when its last byte is
what CSUM of the others delivers. -/
def Obligations.ZeroSumAgreesWithRecomputation : Prop :=
  ∀ (text : Bytes) (last c : Byte) (s u : State),
    exec (.csum text) s = .next { s with out := { outcome := some .ok, cs := some c } } →
    exec (.csverify (text ++ [last])) u =
      .next { u with out := { outcome := some .ok, zero := some (decide (last = c)) } }

/-- R58, R120: the results of CSUM and CSVERIFY do not depend on the order of the bytes. -/
def Obligations.ChecksumIgnoresByteOrder : Prop :=
  ∀ (a b : Bytes) (s : State), a.Perm b →
    exec (.csum a) s = exec (.csum b) s ∧ exec (.csverify a) s = exec (.csverify b) s

/-! ### The Message Framer -/

/-- R131 to R135: TXFRAME of a map delivers prefix, text, suffix: in fixed mode the destination address
high, low and the destination channel, the text unchanged, and with the checksum enabled the one byte
CSUM delivers for the text alone; of a non-map it ends with `FAIL`, cause `VALIDATION`. No state is
written. -/
def Obligations.TxframeBuildsTheMessage : Prop :=
  ∀ (useCs : Bool) (dstAddr : BitVec 16) (dstChan : Byte) (text : Bytes) (s : State),
    (∃ hi lo c : Byte,
      hi.toNat = dstAddr.toNat / 256 ∧ lo.toNat = dstAddr.toNat % 256 ∧
      exec (.csum text) s = .next { s with out := { outcome := some .ok, cs := some c } } ∧
      exec (.txframe true useCs dstAddr dstChan text) s =
        .next { s with
          out := { outcome := some .ok,
                   msg := some ((if s.cfr.tmode = 1#1 then [hi, lo, dstChan] else []) ++ text ++
                     (if useCs then [c] else [])) } }) ∧
    exec (.txframe false useCs dstAddr dstChan text) s =
      .next { s with out := { outcome := some .fail, cause := .validation } }

/-- R132, R146 a: for all payloads, the message is longer than its text by 3 in fixed mode and 0 in
transparent mode, and by 1 for the checksum. -/
def Obligations.TxframeLength : Prop :=
  ∀ (useCs : Bool) (dstAddr : BitVec 16) (dstChan : Byte) (text : Bytes) (s : State),
    ∃ t m, exec (.txframe true useCs dstAddr dstChan text) s = .next t ∧ t.out.msg = some m ∧
      m.length = text.length + (if s.cfr.tmode = 1#1 then 3 else 0) + (if useCs then 1 else 0)

/-- R145: TXFRAME's result depends on CFR only through `TMODE`. -/
def Obligations.TxframeReadsOnlyTmode : Prop :=
  ∀ (isMap useCs : Bool) (dstAddr : BitVec 16) (dstChan : Byte) (text : Bytes) (s s' t t' : State),
    s.cfr.tmode = s'.cfr.tmode →
    exec (.txframe isMap useCs dstAddr dstChan text) s = .next t →
    exec (.txframe isMap useCs dstAddr dstChan text) s' = .next t' → t.out = t'.out

/-- R75, R135 (the table's rows MSG): a message frame of transparent mode is TXFRAME's result of its
text when `CFR.TMODE` is 0, whatever the destination operands; one of fixed mode is TXFRAME's result
when it is 1. In either mode a row delivers the frame of its own shape and writes no state (for the
mode a row does not name that is the model's choice, log entry 18). -/
def Obligations.MessageRowsAreTxframeResults : Prop :=
  ∀ (useCs : Bool) (dstAddr : BitVec 16) (dstChan : Byte) (text : Bytes) (s : State),
    ∃ (hi lo : Byte) (tail : Bytes), hi.toNat = dstAddr.toNat / 256 ∧
      lo.toNat = dstAddr.toNat % 256 ∧ tail.length = (if useCs then 1 else 0) ∧
      exec (.msgTransparent useCs text) s =
        .next { s with out := { outcome := some .ok, msg := some (text ++ tail) } } ∧
      exec (.msgFixed dstAddr dstChan useCs text) s =
        .next { s with
          out := { outcome := some .ok, msg := some ([hi, lo, dstChan] ++ (text ++ tail)) } } ∧
      exec (.txframe true useCs dstAddr dstChan text) s =
        (if s.cfr.tmode = 1#1 then exec (.msgFixed dstAddr dstChan useCs text) s
         else exec (.msgTransparent useCs text) s)

/-- R136 to R139, R142, R143: nothing buffered is `NO_MESSAGE`, cause `NONE`. With the checksum enabled
a nonzero sum of the whole sequence is `NO_MESSAGE`, cause `INTEGRITY`, and nothing is parsed; a zero sum
strips the last byte. The text goes to `Parse`, no prefix taken off: a payload is delivered as `MESSAGE`
and kept in `LAST`, a failure is `NO_MESSAGE`, cause `PARSE`. In every `NO_MESSAGE` ending `LAST` keeps its
value when `RX_FAIL_KEEPS_LAST` is true and becomes `NULL` when it is false. Nothing else is written. The
table's row MSG (received) does the same with its bytes, which is log entry 18 (DEDUCED). -/
def Obligations.RxdeframeChecksThenParses : Prop :=
  ∀ (useCs : Bool) (rxb : Bytes) (ports : Ports) (s : State),
    let noMessage (c : Cause) : State := { s with
      last := if Config.rxFailKeepsLast then s.last else none,
      out := { outcome := some .noMessage, cause := c } }
    let parsed (text : Bytes) : State :=
      match Config.parse text with
      | some p => { s with last := some p, out := { outcome := some .message, payload := some p } }
      | none => noMessage .parse
    let t : State :=
      if rxb = [] then noMessage .none
      else if useCs then
        if (rxb.map BitVec.toNat).sum % 256 = 0 then parsed rxb.dropLast else noMessage .integrity
      else parsed rxb
    decode (.op 0b110#3 ports) = .ok (.rxdeframe ports.useCs ports.rxb) ∧
    exec (.rxdeframe useCs none) s = .next (noMessage .none) ∧
    exec (.rxdeframe useCs (some rxb)) s = .next t ∧
    exec (.msgReceived useCs rxb) s = .next t

/-- R146 b: with the checksum enabled, RXDEFRAME of what TXFRAME delivers in transparent mode hands the
sent text to `Parse`. -/
def Obligations.LoopbackHandsTheTextToParse : Prop :=
  ∀ (dstAddr : BitVec 16) (dstChan : Byte) (text m : Bytes) (s t u : State),
    s.cfr.tmode = 0#1 → exec (.txframe true true dstAddr dstChan text) s = .next t →
    t.out.msg = some m →
    exec (.rxdeframe true (some m)) u = .next
      (match Config.parse text with
      | some p => { u with last := some p, out := { outcome := some .message, payload := some p } }
      | none => { u with
          last := if Config.rxFailKeepsLast then u.last else none,
          out := { outcome := some .noMessage, cause := .parse } })

/-- R144, R146 c: a text behind any last byte but its checksum is an integrity failure, never a parsed
payload. -/
def Obligations.CorruptedTrailingByteIsIntegrityFailure : Prop :=
  ∀ (text : Bytes) (c last : Byte) (s t u : State),
    exec (.csum text) s = .next t → t.out.cs = some c → last ≠ c →
    exec (.rxdeframe true (some (text ++ [last]))) u =
      .next { u with
        last := if Config.rxFailKeepsLast then u.last else none,
        out := { outcome := some .noMessage, cause := .integrity } }

/-- R140: Send of a non-map, or of a payload that does not serialize, ends with `VALIDATION` and no
I/O; otherwise the frame TXFRAME builds is written after 300 ms, `OK` when the write is accepted and
`TRANSPORT` when not. No register and not `LAST` is written. That a payload that does not serialize ends
with `VALIDATION` is the spec's decision D10 (log entry 5), and that any prefix of the frame may have
left the host on an error is U6 and R60 as log entry 10 models them. -/
def Obligations.SendWritesTheFrameAfterQuiescence : Prop :=
  ∀ (p : Payload) (useCs : Bool) (a : BitVec 16) (ch : Byte) (rest : List Request) (s : State),
    s.requests = .call (.send p useCs a ch) :: rest →
    step s = .next
      (if Config.isMap p then
        match Config.serialize p with
        | none => { s with requests := rest, out := { outcome := some .fail, cause := .validation } }
        | some text =>
          let m := messageFrame (s.cfr.tmode == 1#1) useCs a ch text
          match s.env.nextWrite with
          | .ok => { s with
              requests := rest, env := s.env.afterWrite,
              trace := s.trace ++ [.wait 300, .write m m true], out := { outcome := some .ok } }
          | .error n => { s with
              requests := rest, env := s.env.afterWrite,
              trace := s.trace ++ [.wait 300, .write m (m.take n) false],
              out := { outcome := some .fail, cause := .transport } }
      else { s with requests := rest, out := { outcome := some .fail, cause := .validation } })

/-- The source's scenario 2 (95_test_vectors.md S2, T2; R8, R135, R140): some map has the text
`{"t":21.5}`, and sending it in transparent mode with checksum writes its ten bytes and the one byte
`50`, whose sum is zero modulo 256. That the payload is a map is read from its being sent (log entry 5). -/
def Obligations.SendScenarioTwo : Prop :=
  ∃ p, Config.isMap p = true ∧
    ∀ (a : BitVec 16) (ch : Byte) (rest : List Request) (s : State),
      s.requests = .call (.send p true a ch) :: rest → s.cfr.tmode = 0#1 → s.env.nextWrite = .ok →
      ∃ m : Bytes, m = [0x7B#8, 0x22#8, 0x74#8, 0x22#8, 0x3A#8, 0x32#8, 0x31#8, 0x2E#8, 0x35#8, 0x7D#8,
          0x50#8] ∧ (m.map BitVec.toNat).sum % 256 = 0 ∧
        step s = .next { s with
          requests := rest, env := s.env.afterWrite,
          trace := s.trace ++ [.wait 300, .write m m true], out := { outcome := some .ok } }

/-- R141: Receive makes one read and hands what it returned to RXDEFRAME. -/
def Obligations.ReceiveDeframesOneRead : Prop :=
  ∀ (useCs : Bool) (rest : List Request) (s : State),
    s.requests = .call (.receive useCs) :: rest →
    let u : State := { s with
      requests := rest, env := s.env.afterRead, trace := s.trace ++ [.read s.env.nextRead] }
    (s.env.nextRead = .nothing → step s = exec (.rxdeframe useCs none) u) ∧
    (∀ b, s.env.nextRead = .bytes b → step s = exec (.rxdeframe useCs (some b)) u) ∧
    (s.env.nextRead = .error → step s = .next { u with
      last := if Config.rxFailKeepsLast then u.last else none,
      out := { outcome := some .noMessage, cause := .transport } })

/-! ### Block operations as a whole -/

/-- R31, R32, R36, R37, R41: an instruction that is no wire command leaves the host fields, the mode,
the store, the environment and the requests alone; only the decode of a configuration response writes
CFR, and only a deframe writes `LAST`. -/
def Obligations.BlockOperationsWriteOnlyTheirOwnState : Prop :=
  ∀ (i : Instr) (s t : State), isCommand i = false → exec i s = .next t →
    t.model = s.model ∧ t.port = s.port ∧ t.freq = s.freq ∧ t.mode = s.mode ∧ t.store = s.store ∧
    t.env = s.env ∧ t.trace = s.trace ∧ t.requests = s.requests ∧
    (decodesConfig i = false → t.cfr = s.cfr) ∧ (deframesMessage i = false → t.last = s.last)

/-- R17, R196: a failed operation of the block is indistinguishable from one never issued, but for the
outcome it delivers. -/
def Obligations.FailedBlockOperationWritesNoState : Prop :=
  ∀ (i : Instr) (s t : State), isCommand i = false → exec i s = .next t →
    t.out.outcome = some .fail → { t with out := s.out } = s

/-- R200: `MODE` gates no block operation: the same results and the same state in every mode. -/
def Obligations.ModeGatesNoBlockOperation : Prop :=
  ∀ (i : Instr) (m : Mode) (s t : State), isCommand i = false → exec i s = .next t →
    exec i { s with mode := m } = .next { t with mode := m }

/-! ### The Command Protocol -/

/-- R157: `getConfig` answered by six bytes. -/
def Obligations.GetConfigStoresAndPersists : Prop :=
  ∀ (r : Frame6) (s : State), s.env.nextWrite = .ok →
    s.env.afterWrite.nextRead = .bytes [r.b0, r.b1, r.b2, r.b3, r.b4, r.b5] →
    let rec' : Record := ⟨s.model, s.port, s.freq, unpackFields (cfgFields r)⟩
    exec .getConfig s = .next { s with
      mode := .sleep, cfr := rec'.cfr, store := some rec',
      env := s.env.afterWrite.afterRead,
      trace := s.trace ++
        [.setLines .sleep, .wait 50, .write [0xC1#8, 0xC1#8, 0xC1#8] [0xC1#8, 0xC1#8, 0xC1#8] true,
         .wait 50, .read (.bytes r.toBytes), .wait 50, .persist rec'],
      out := { outcome := some .ok } }

/-- R158, R159, R152: a set-config command with a record that packs, accepted and answered by six
bytes: the frame PACK_CFG builds with the command's header goes out, and the response, not the frame,
becomes CFR and is persisted. -/
def Obligations.SetConfigSendsPackedFrameAndStoresResponse : Prop :=
  ∀ (f : CfgFields) (r fr : Frame6) (s : State), s.env.nextWrite = .ok →
    s.env.afterWrite.nextRead = .bytes [r.b0, r.b1, r.b2, r.b3, r.b4, r.b5] →
    let rec' : Record := ⟨s.model, s.port, s.freq, unpackFields (cfgFields r)⟩
    let t : State := { s with
      mode := .sleep, cfr := rec'.cfr, store := some rec',
      env := s.env.afterWrite.afterRead,
      trace := s.trace ++
        [.setLines .sleep, .wait 50, .write fr.toBytes fr.toBytes true,
         .wait 50, .read (.bytes r.toBytes), .wait 50, .persist rec'],
      out := { outcome := some .ok } }
    (packFrame 0xC0#8 s.cfr = some fr → exec (.setConfigPwrDwnSave f) s = .next t) ∧
    (packFrame 0xC2#8 s.cfr = some fr → exec (.setConfigPwrDwnNoSave f) s = .next t)

/-- R71, R102, R152, R158, R159: the frame a set-config command writes is, as a word, the command's own
row of the opcode table, and its fields are those of CFR. -/
def Obligations.SetConfigFrameIsItsOwnRow : Prop :=
  ∀ (fr : Frame6) (c : Cfr),
    (packFrame 0xC0#8 c = some fr →
      ∃ f, decode (.commandFrame fr.toBytes) = .ok (.setConfigPwrDwnSave f) ∧ unpackFields f = c) ∧
    (packFrame 0xC2#8 c = some fr →
      ∃ f, decode (.commandFrame fr.toBytes) = .ok (.setConfigPwrDwnNoSave f) ∧ unpackFields f = c)

/-- R156: `getVersion` answered by four bytes surfaces band, version and features, and writes neither
CFR nor the store. -/
def Obligations.GetVersionSurfacesTheVersion : Prop :=
  ∀ (h q v e : Byte) (s : State), s.env.nextWrite = .ok →
    s.env.afterWrite.nextRead = .bytes [h, q, v, e] →
    exec .getVersion s = .next { s with
      mode := .sleep, env := s.env.afterWrite.afterRead,
      trace := s.trace ++
        [.setLines .sleep, .wait 50, .write [0xC3#8, 0xC3#8, 0xC3#8] [0xC3#8, 0xC3#8, 0xC3#8] true,
         .wait 50, .read (.bytes [h, q, v, e]), .wait 50],
      out := { outcome := some .ok,
               vband := some (match Config.freqBand q with
                 | some b => .known b
                 | none => .unknown),
               vver := some v, vfeat := some e } }

/-- R160, R213: `reset` sends its three bytes, reads nothing, and changes no register, `LAST` or record
field. -/
def Obligations.ResetCommandSendsAndReadsNothing : Prop :=
  ∀ s : State, s.env.nextWrite = .ok →
    exec .reset s = .next { s with
      mode := .sleep, env := s.env.afterWrite,
      trace := s.trace ++
        [.setLines .sleep, .wait 50, .write [0xC4#8, 0xC4#8, 0xC4#8] [0xC4#8, 0xC4#8, 0xC4#8] true,
         .wait 50],
      out := { outcome := some .ok } }

/-- R156 to R159: after an accepted write, a response of any other length than the command expects
(`none` counts as 0) ends with `FAIL`, cause `PROTOCOL`, with CFR and the store unchanged and no version
result. A set-config command reaches it when its record packs. -/
def Obligations.WrongResponseLengthIsProtocolFailure : Prop :=
  ∀ (f : CfgFields) (resp : Bytes) (s : State), s.env.nextWrite = .ok →
    s.env.afterWrite.nextRead = .bytes resp ∨ (s.env.afterWrite.nextRead = .nothing ∧ resp = []) →
    let failed (i : Instr) : Prop := ∃ t, exec i s = .next t ∧
      t.out = { outcome := some .fail, cause := .protocol } ∧ t.cfr = s.cfr ∧ t.store = s.store
    (resp.length ≠ 4 → failed .getVersion) ∧ (resp.length ≠ 6 → failed .getConfig) ∧
    (resp.length ≠ 6 → s.cfr.parity ≠ none → s.cfr.baud ≠ none → s.cfr.drate ≠ none →
      failed (.setConfigPwrDwnSave f) ∧ failed (.setConfigPwrDwnNoSave f))

/-- R154, R155, R161, R194: a write error ends a command with `FAIL`, cause `TRANSPORT`, and no read is
made; a read error does the same after it. A set-config command reaches its write when its record packs;
`getConfig`, `getVersion` and `reset` pack nothing and do so over any record (R219). -/
def Obligations.TransportErrorEndsTheCommand : Prop :=
  ∀ (f : CfgFields) (i : Instr) (n : Nat) (s : State),
    i ∈ [Instr.setConfigPwrDwnSave f, .setConfigPwrDwnNoSave f, .getConfig, .getVersion, .reset] →
    (i = .setConfigPwrDwnSave f ∨ i = .setConfigPwrDwnNoSave f →
      s.cfr.parity ≠ none ∧ s.cfr.baud ≠ none ∧ s.cfr.drate ≠ none) →
    (s.env.nextWrite = .error n → ∃ t, exec i s = .next t ∧
      t.out = { outcome := some .fail, cause := .transport } ∧ t.env = s.env.afterWrite ∧
      t.cfr = s.cfr ∧ t.store = s.store) ∧
    (s.env.nextWrite = .ok → s.env.afterWrite.nextRead = .error → i ≠ .reset →
      ∃ t, exec i s = .next t ∧ t.out = { outcome := some .fail, cause := .transport } ∧
      t.env = s.env.afterWrite.afterRead ∧ t.cfr = s.cfr ∧ t.store = s.store)

/-- R101, R152, R192: a set-config command over a record with a `NULL` ends with `FAIL`, cause
`VALIDATION`: the mode lines have been driven, and neither a write nor a read was made. -/
def Obligations.SetConfigValidationBeforeAnyIO : Prop :=
  ∀ (f : CfgFields) (s : State),
    s.cfr.parity = none ∨ s.cfr.baud = none ∨ s.cfr.drate = none →
    let t : State := { s with
      mode := .sleep, trace := s.trace ++ [.setLines .sleep, .wait 50],
      out := { outcome := some .fail, cause := .validation } }
    exec (.setConfigPwrDwnSave f) s = .next t ∧ exec (.setConfigPwrDwnNoSave f) s = .next t

/-- R163: after a register-level command, successful or not, `MODE` is `sleep`. -/
def Obligations.CommandsLeaveModeSleep : Prop :=
  ∀ (i : Instr) (s : State), isCommand i = true →
    ∃ t, exec i s = .next t ∧ t.mode = .sleep

/-- R32, R36, R106: a command leaves the host fields, `LAST` and the requests alone; R161, R196: one that
does not end with `OK` leaves CFR and the store wholly old; R156, R160: `getVersion` and `reset` always
do. -/
def Obligations.CommandFrameAndFailureKeepCfr : Prop :=
  ∀ (i : Instr) (s t : State), isCommand i = true → exec i s = .next t →
    t.model = s.model ∧ t.port = s.port ∧ t.freq = s.freq ∧ t.last = s.last ∧
    t.requests = s.requests ∧ t.env.idles = s.env.idles ∧
    (t.out.outcome ≠ some .ok ∨ i = .getVersion ∨ i = .reset → t.cfr = s.cfr ∧ t.store = s.store)

/-- R150, R223, R224, R226: every command begins by forcing `sleep` and settling; one that ends with
`OK` has waited 150 ms, and `reset` 100 ms. -/
def Obligations.CommandsBeginWithSleepAndWait : Prop :=
  ∀ (i : Instr) (s t : State), isCommand i = true → exec i s = .next t →
    ∃ ev, t.trace = s.trace ++ .setLines .sleep :: .wait 50 :: ev ∧
      (t.out.outcome = some .ok → 50 + waited ev = if i = .reset then 100 else 150)

/-- R151: `setMode(m)` drives the lines, writes `MODE` and waits 50 ms, whatever the mode was. Its outcome
`OK` is the model's choice, log entry 20. -/
def Obligations.SetModeAssertsAndSettles : Prop :=
  ∀ (m : Mode) (rest : List Request) (s : State), s.requests = .call (.setMode m) :: rest →
    step s = .next { s with
      requests := rest, mode := m, trace := s.trace ++ [.setLines m, .wait 50],
      out := { outcome := some .ok } }

/-- R164, R225: the idle-wait loop polls the signal, returns at once on idle, else waits 10 ms, and
gives up after the tenth busy poll. With `busy` busy polls before it ends, the first `busy` successive
answers of the signal were busy, the next one, if fewer than ten were, was idle, and the environment is
what those polls leave: the reads and writes of the transport are untouched. No other state is written,
and both exits deliver the same outcome, whose being `OK` is the model's choice, log entry 20. -/
def Obligations.IdleWaitIsBoundedAndSilent : Prop :=
  ∀ (rest : List Request) (s : State), s.requests = .call .idleWait :: rest →
    ∃ busy : Nat, busy ≤ 10 ∧
      (∀ k < busy, (Env.afterPoll^[k] s.env).nextIdle = false) ∧
      (busy < 10 → (Env.afterPoll^[busy] s.env).nextIdle = true) ∧
      (∀ k, (Env.afterPoll^[k] s.env).reads = s.env.reads ∧
        (Env.afterPoll^[k] s.env).writes = s.env.writes) ∧
      step s = .next { s with
        requests := rest, env := Env.afterPoll^[min (busy + 1) 10] s.env,
        trace := s.trace ++ (List.replicate busy [Event.poll false, Event.wait 10]).flatten ++
          (if busy < 10 then [Event.poll true] else []),
        out := { outcome := some .ok } }

/-! ### The Configuration Model and Startup -/

/-- R170, R171, R175 to R178: `start` is the save command run on the record it has made: the three
overrides, no `NULL` left, `MODEL` unchanged, the channel `min(channel, 31, band_max - band_min)` and
`FREQ = band_min + CHAN` at most `band_max`. The last three rest on a band's minimum being at most its
maximum, which is log entry 6 (DEDUCED). -/
def Obligations.StartClampsThenSaves : Prop :=
  ∀ (a : BitVec 16) (c : Byte) (m : BitVec 1) (f : CfgFields) (rest : List Request) (s : State),
    s.requests = .call (.start a c m) :: rest →
    ∃ (u : State) (b : BandLimits),
      b = (match Config.band s.model with
        | some known => known
        | none => Config.defaultBand) ∧
      step s = exec (.setConfigPwrDwnSave f) u ∧
      u.cfr.addr = a ∧ u.cfr.tmode = m ∧
      u.cfr.chan.toNat = min (min c.toNat 31) (b.max - b.min) ∧
      u.freq = b.min + u.cfr.chan.toNat ∧ u.freq ≤ b.max ∧ u.model = s.model ∧
      u.port = (if Config.portValid s.port then s.port else Config.cfgDefault.port) ∧
      u.cfr.parity = some (s.cfr.parity.getD Config.cfgDefault.parity) ∧
      u.cfr.baud = some (s.cfr.baud.getD Config.cfgDefault.baud) ∧
      u.cfr.drate = some (s.cfr.drate.getD Config.cfgDefault.drate) ∧
      u.cfr.iomode = s.cfr.iomode ∧ u.cfr.wutime = s.cfr.wutime ∧ u.cfr.fec = s.cfr.fec ∧
      u.cfr.txpwr = s.cfr.txpwr ∧ u.last = s.last ∧ u.mode = s.mode ∧ u.store = s.store ∧
      u.env = s.env ∧ u.trace = s.trace ∧ u.requests = rest

/-- R175, R219: `start` never ends with `VALIDATION`: whatever an earlier decode left `NULL` has been
replaced. -/
def Obligations.StartNeverFailsValidation : Prop :=
  ∀ (a : BitVec 16) (c : Byte) (m : BitVec 1) (rest : List Request) (s : State),
    s.requests = .call (.start a c m) :: rest →
    ∃ t, step s = .next t ∧ t.out.cause ≠ .validation

/-- The source's scenario 3 (95_test_vectors.md S3, F5, P1; R170, R171, R175, R178): channel 40 on the
band 410 to 441. The record handed to the save command holds channel 31 and frequency 441 with the two
overrides; the frequency is 441 however the command ends; the registers are those of that record after
any failure (R64, R161), and after an accepted save that the module answers with the frame it was sent. -/
def Obligations.StartScenarioThree : Prop :=
  ∀ (a : BitVec 16) (m : BitVec 1) (f : CfgFields) (b : BandLimits) (rest : List Request) (s : State),
    s.requests = .call (.start a 40#8 m) :: rest → Config.band s.model = some b →
    b.min = 410 → b.max = 441 →
    ∃ u t : State, step s = exec (.setConfigPwrDwnSave f) u ∧ step s = .next t ∧
      u.cfr.chan = 31#8 ∧ u.freq = 441 ∧ u.cfr.addr = a ∧ u.cfr.tmode = m ∧ u.env = s.env ∧
      t.freq = 441 ∧
      (t.out.outcome ≠ some .ok → t.cfr = u.cfr) ∧
      (∀ n, s.env.nextWrite = .error n → t.out = { outcome := some .fail, cause := .transport }) ∧
      (∃ fr, packFrame 0xC0#8 u.cfr = some fr ∧
        (s.env.nextWrite = .ok → s.env.afterWrite.nextRead = .bytes fr.toBytes →
          t.out = { outcome := some .ok } ∧ t.cfr = u.cfr ∧ t.store = some (record t)))

/-- R179: `setTransmissionMode` of the current mode is `OK` with no write and no I/O; of the other it
writes `CFR.TMODE` and runs the save command. -/
def Obligations.SetTransmissionModeSavesOnlyAChange : Prop :=
  ∀ (m : BitVec 1) (f : CfgFields) (rest : List Request) (s : State),
    s.requests = .call (.setTransmissionMode m) :: rest →
    (m = s.cfr.tmode → step s = .next { s with requests := rest, out := { outcome := some .ok } }) ∧
    (m ≠ s.cfr.tmode → step s =
      exec (.setConfigPwrDwnSave f) { s with requests := rest, cfr := { s.cfr with tmode := m } })

/-- R20, R31: a direct register write changes the named register and no other state of the machine. -/
def Obligations.DirectWriteChangesOneRegister : Prop :=
  ∀ (rest : List Request) (s : State),
    let after (c : Cfr) : Host.Outcome State Fault Refusal :=
      .next { s with requests := rest, cfr := c, out := { outcome := some .ok } }
    let runs (w : CfrWrite) : Host.Outcome State Fault Refusal :=
      step { s with requests := .call (.writeCfr w) :: rest }
    (∀ v, runs (.addr v) = after { s.cfr with addr := v }) ∧
    (∀ v, runs (.parity v) = after { s.cfr with parity := some v }) ∧
    (∀ v, runs (.baud v) = after { s.cfr with baud := some v }) ∧
    (∀ v, runs (.drate v) = after { s.cfr with drate := some v }) ∧
    (∀ v, runs (.chan v) = after { s.cfr with chan := v }) ∧
    (∀ v, runs (.tmode v) = after { s.cfr with tmode := v }) ∧
    (∀ v, runs (.iomode v) = after { s.cfr with iomode := v }) ∧
    (∀ v, runs (.wutime v) = after { s.cfr with wutime := v }) ∧
    (∀ v, runs (.fec v) = after { s.cfr with fec := v }) ∧
    (∀ v, runs (.txpwr v) = after { s.cfr with txpwr := v })
end

