-- ==== Sys2Proof/Laws/Config.lean ====
section
/-! SUPPORT. The laws of the implementation's parameters, as the spec states them and no more
(00_scope.md R8, 10_state.md R46). -/

namespace Sys2Proof.Config

theorem parityCode_injective : Function.Injective parityCode := params.parityCode_injective

theorem baudCode_injective : Function.Injective baudCode := params.baudCode_injective

theorem drateCode_injective : Function.Injective drateCode := params.drateCode_injective

@[simp] theorem parityCode_inj {a b : Parity} : parityCode a = parityCode b ↔ a = b :=
  parityCode_injective.eq_iff

@[simp] theorem baudCode_inj {a b : Baud} : baudCode a = baudCode b ↔ a = b :=
  baudCode_injective.eq_iff

@[simp] theorem drateCode_inj {a b : Drate} : drateCode a = drateCode b ↔ a = b :=
  drateCode_injective.eq_iff

@[simp] theorem parityCode_8N1 : parityCode .p8N1 = 0b00#2 := params.parityCode_8N1

@[simp] theorem baudCode_9600 : baudCode .b9600 = 0b011#3 := params.baudCode_9600

@[simp] theorem drateCode_2k4 : drateCode .d2k4 = 0b010#3 := params.drateCode_2k4

theorem exists_band_410_441 : ∃ t b, band t = some b ∧ b.min = 410 ∧ b.max = 441 :=
  params.band_410_441

theorem exists_scenario_payload : ∃ p, isMap p = true ∧ serialize p = some scenarioText :=
  params.serialize_scenario

theorem cfgDefault_chan_le : cfgDefault.chan.toNat ≤ 31 := params.cfgDefault_chan

theorem cfgDefault_model_known : (band cfgDefault.model).isSome = true := params.cfgDefault_model

theorem cfgDefault_port_valid : portValid cfgDefault.port = true := params.cfgDefault_port

end Sys2Proof.Config
end

