-- ==== Sys2Proof/Laws/Operands.lean ====
section
/-! SUPPORT. What the operand forms compute, as arithmetic, and that assembling and extracting undo
each other: each function's lemmas, to be cited instead of unfolding it. -/

namespace Sys2Proof.Machine

/-! ### The two bytes of a 16-bit quantity (R78) -/

@[simp] theorem highByte_toNat (v : BitVec 16) : (highByte v).toNat = v.toNat / 256 := by
  have := v.isLt
  simp [highByte]; omega

@[simp] theorem lowByte_toNat (v : BitVec 16) : (lowByte v).toNat = v.toNat % 256 := by
  simp [lowByte]

@[simp] theorem joinBytes_toNat (hi lo : Byte) :
    (joinBytes hi lo).toNat = hi.toNat * 256 + lo.toNat := by
  have := hi.isLt
  have := lo.isLt
  simp [joinBytes]; omega

@[simp] theorem joinBytes_high_low (v : BitVec 16) : joinBytes (highByte v) (lowByte v) = v := by
  apply BitVec.eq_of_toNat_eq
  simp; omega

@[simp] theorem highByte_joinBytes (hi lo : Byte) : highByte (joinBytes hi lo) = hi := by
  have := lo.isLt
  apply BitVec.eq_of_toNat_eq
  simp; omega

@[simp] theorem lowByte_joinBytes (hi lo : Byte) : lowByte (joinBytes hi lo) = lo := by
  have := lo.isLt
  apply BitVec.eq_of_toNat_eq
  simp only [lowByte_toNat, joinBytes_toNat]; omega

/-! ### Bytes 3 and 5 of a register frame (R76, R77) -/

theorem byte3_toNat (p : BitVec 2) (b d : BitVec 3) :
    (byte3 p b d).toNat = p.toNat * 64 + b.toNat * 8 + d.toNat := by
  revert p b d; decide

theorem byte3_parity (p : BitVec 2) (b d : BitVec 3) : (byte3 p b d).extractLsb' 6 2 = p := by
  revert p b d; decide

theorem byte3_baud (p : BitVec 2) (b d : BitVec 3) : (byte3 p b d).extractLsb' 3 3 = b := by
  revert p b d; decide

theorem byte3_drate (p : BitVec 2) (b d : BitVec 3) : (byte3 p b d).extractLsb' 0 3 = d := by
  revert p b d; decide

theorem byte3_extract (x : Byte) :
    byte3 (x.extractLsb' 6 2) (x.extractLsb' 3 3) (x.extractLsb' 0 3) = x := by
  revert x; decide

theorem byte5_toNat (t i : BitVec 1) (w : BitVec 3) (f : BitVec 1) (x : BitVec 2) :
    (byte5 t i w f x).toNat =
      t.toNat * 128 + i.toNat * 64 + w.toNat * 8 + f.toNat * 4 + x.toNat := by
  revert t i w f x; decide

theorem byte5_tmode (t i : BitVec 1) (w : BitVec 3) (f : BitVec 1) (x : BitVec 2) :
    (byte5 t i w f x).extractLsb' 7 1 = t := by
  revert t i w f x; decide

theorem byte5_iomode (t i : BitVec 1) (w : BitVec 3) (f : BitVec 1) (x : BitVec 2) :
    (byte5 t i w f x).extractLsb' 6 1 = i := by
  revert t i w f x; decide

theorem byte5_wutime (t i : BitVec 1) (w : BitVec 3) (f : BitVec 1) (x : BitVec 2) :
    (byte5 t i w f x).extractLsb' 3 3 = w := by
  revert t i w f x; decide

theorem byte5_fec (t i : BitVec 1) (w : BitVec 3) (f : BitVec 1) (x : BitVec 2) :
    (byte5 t i w f x).extractLsb' 2 1 = f := by
  revert t i w f x; decide

theorem byte5_txpwr (t i : BitVec 1) (w : BitVec 3) (f : BitVec 1) (x : BitVec 2) :
    (byte5 t i w f x).extractLsb' 0 2 = x := by
  revert t i w f x; decide

theorem byte5_extract (x : Byte) :
    byte5 (x.extractLsb' 7 1) (x.extractLsb' 6 1) (x.extractLsb' 3 3) (x.extractLsb' 2 1)
      (x.extractLsb' 0 2) = x := by
  revert x; decide

/-! ### A field of a byte as a quotient and a remainder (R11, R76, R77) -/

theorem extract_7_1_toNat (x : Byte) : (x.extractLsb' 7 1).toNat = x.toNat / 128 := by
  revert x; decide

theorem extract_6_2_toNat (x : Byte) : (x.extractLsb' 6 2).toNat = x.toNat / 64 := by
  revert x; decide

theorem extract_6_1_toNat (x : Byte) : (x.extractLsb' 6 1).toNat = x.toNat / 64 % 2 := by
  revert x; decide

theorem extract_3_3_toNat (x : Byte) : (x.extractLsb' 3 3).toNat = x.toNat / 8 % 8 := by
  revert x; decide

theorem extract_2_1_toNat (x : Byte) : (x.extractLsb' 2 1).toNat = x.toNat / 4 % 2 := by
  revert x; decide

theorem extract_0_3_toNat (x : Byte) : (x.extractLsb' 0 3).toNat = x.toNat % 8 := by
  revert x; decide

theorem extract_0_2_toNat (x : Byte) : (x.extractLsb' 0 2).toNat = x.toNat % 4 := by
  revert x; decide

/-! ### The register frame and its fields (R71) -/

/-- No field of a frame is lost. -/
@[simp] theorem cfgFields_cfgFrame (h : Byte) (f : CfgFields) : cfgFields (cfgFrame h f) = f := by
  cases f
  simp [cfgFields, cfgFrame, byte3_parity, byte3_baud, byte3_drate, byte5_tmode, byte5_iomode,
    byte5_wutime, byte5_fec, byte5_txpwr]

/-- No bit of a frame is lost. -/
@[simp] theorem cfgFrame_cfgFields (r : Frame6) : cfgFrame r.b0 (cfgFields r) = r := by
  cases r
  simp [cfgFields, cfgFrame, byte3_extract, byte5_extract]

/-! ### The inverses of the code tables (R105) -/

theorem parityInv_eq_some {c : BitVec 2} {p : Parity} :
    parityInv c = some p ↔ Config.parityCode p = c := by
  constructor
  · intro h; simpa using List.find?_some h
  · rintro rfl
    have hmem : p ∈ Parity.all := by cases p <;> simp [Parity.all]
    obtain ⟨p', hp'⟩ := Option.isSome_iff_exists.mp
      (List.find?_isSome (p := fun x => Config.parityCode x == Config.parityCode p) |>.mpr
        ⟨p, hmem, by simp⟩)
    have : p' = p := by simpa using List.find?_some hp'
    rw [parityInv, hp', this]

theorem baudInv_eq_some {c : BitVec 3} {b : Baud} :
    baudInv c = some b ↔ Config.baudCode b = c := by
  constructor
  · intro h; simpa using List.find?_some h
  · rintro rfl
    have hmem : b ∈ Baud.all := by cases b <;> simp [Baud.all]
    obtain ⟨b', hb'⟩ := Option.isSome_iff_exists.mp
      (List.find?_isSome (p := fun x => Config.baudCode x == Config.baudCode b) |>.mpr
        ⟨b, hmem, by simp⟩)
    have : b' = b := by simpa using List.find?_some hb'
    rw [baudInv, hb', this]

theorem drateInv_eq_some {c : BitVec 3} {d : Drate} :
    drateInv c = some d ↔ Config.drateCode d = c := by
  constructor
  · intro h; simpa using List.find?_some h
  · rintro rfl
    have hmem : d ∈ Drate.all := by cases d <;> simp [Drate.all]
    obtain ⟨d', hd'⟩ := Option.isSome_iff_exists.mp
      (List.find?_isSome (p := fun x => Config.drateCode x == Config.drateCode d) |>.mpr
        ⟨d, hmem, by simp⟩)
    have : d' = d := by simpa using List.find?_some hd'
    rw [drateInv, hd', this]

@[simp] theorem parityInv_code (p : Parity) : parityInv (Config.parityCode p) = some p :=
  parityInv_eq_some.mpr rfl

@[simp] theorem baudInv_code (b : Baud) : baudInv (Config.baudCode b) = some b :=
  baudInv_eq_some.mpr rfl

@[simp] theorem drateInv_code (d : Drate) : drateInv (Config.drateCode d) = some d :=
  drateInv_eq_some.mpr rfl

theorem parityInv_eq_none {c : BitVec 2} :
    parityInv c = none ↔ ∀ p, Config.parityCode p ≠ c := by
  rw [Option.eq_none_iff_forall_not_mem]
  exact forall_congr' fun p => not_congr parityInv_eq_some

theorem drateInv_eq_none {c : BitVec 3} :
    drateInv c = none ↔ ∀ d, Config.drateCode d ≠ c := by
  rw [Option.eq_none_iff_forall_not_mem]
  exact forall_congr' fun d => not_congr drateInv_eq_some

/-- Eight symbols fill the eight 3-bit codes (R23). -/
theorem baudCode_surjective : Function.Surjective Config.baudCode := by
  let l : List (Fin 8) := Baud.all.map fun b => (Config.baudCode b).toFin
  have hinj : Function.Injective fun b => (Config.baudCode b).toFin := fun a b h => by
    simpa using BitVec.eq_of_toFin_eq h
  have hnodup : l.Nodup := (by decide : Baud.all.Nodup).map hinj
  have huniv : l.toFinset = Finset.univ := by
    apply Finset.eq_univ_of_card
    rw [List.toFinset_card_of_nodup hnodup]; rfl
  intro c
  have : c.toFin ∈ l.toFinset := huniv ▸ Finset.mem_univ _
  obtain ⟨b, -, hb⟩ := List.mem_map.mp (List.mem_toFinset.mp this)
  exact ⟨b, BitVec.eq_of_toFin_eq hb⟩

/-- `BAUD_INV` is total: UNPACK_CFG never writes `NULL` to `CFR.BAUD` (R23). -/
theorem baudInv_ne_none (c : BitVec 3) : baudInv c ≠ none := by
  obtain ⟨b, rfl⟩ := baudCode_surjective c
  simp

/-- Three symbols leave a 2-bit code absent (R22). -/
theorem exists_parityInv_eq_none : ∃ c, parityInv c = none := by
  by_contra h
  push Not at h
  have hs : Function.Surjective Config.parityCode := fun c => by
    obtain ⟨p, hp⟩ := Option.ne_none_iff_exists'.mp (h c)
    exact ⟨p, parityInv_eq_some.mp hp⟩
  obtain ⟨⟨p, hp⟩, ⟨q, hq⟩, ⟨r, hr⟩⟩ := And.intro (hs 1#2) (And.intro (hs 2#2) (hs 3#2))
  cases p <;> cases q <;> cases r <;> simp_all

/-! ### PACK_CFG and UNPACK_CFG on fields (R100, R101, R104) -/

theorem packFields_eq_some {c : Cfr} {p : Parity} {b : Baud} {d : Drate} (hp : c.parity = some p)
    (hb : c.baud = some b) (hd : c.drate = some d) :
    packFields c = some
      { addr := c.addr, parity := Config.parityCode p, baud := Config.baudCode b,
        drate := Config.drateCode d, chan := c.chan, tmode := c.tmode, iomode := c.iomode,
        wutime := c.wutime, fec := c.fec, txpwr := c.txpwr } := by
  simp [packFields, hp, hb, hd]

theorem packFields_eq_none {c : Cfr} :
    packFields c = none ↔ c.parity = none ∨ c.baud = none ∨ c.drate = none := by
  unfold packFields
  split
  · simp_all
  · rename_i h
    simp only [true_iff]
    by_contra hc
    simp only [not_or, ← ne_eq, Option.ne_none_iff_exists'] at hc
    obtain ⟨⟨p, hp⟩, ⟨b, hb⟩, ⟨d, hd⟩⟩ := hc
    exact h p b d hp hb hd

/-- What PACK_CFG emits, UNPACK_CFG reads back, for every channel (R107). -/
theorem unpackFields_of_packFields {c : Cfr} {f : CfgFields} (h : packFields c = some f) :
    unpackFields f = c := by
  unfold packFields at h
  split at h
  · next p b d hp hb hd =>
    cases h
    cases c
    simp_all [unpackFields]
  · cases h

/-! ### The byte sum and the checksum (R120 to R127) -/

@[simp] theorem sumBytes_nil : sumBytes [] = 0 := rfl

@[simp] theorem sumBytes_cons (b : Byte) (t : Bytes) : sumBytes (b :: t) = b.toNat + sumBytes t := rfl

@[simp] theorem sumBytes_append (a b : Bytes) : sumBytes (a ++ b) = sumBytes a + sumBytes b := by
  induction a with
  | nil => simp
  | cons x xs ih => simp [ih]; omega

theorem sumBytes_eq_sum (t : Bytes) : sumBytes t = (t.map BitVec.toNat).sum := by
  induction t with
  | nil => rfl
  | cons x xs ih => simp [ih]

@[simp] theorem checksum_toNat (t : Bytes) :
    (checksum t).toNat = (256 - sumBytes t % 256) % 256 := by
  unfold checksum negMod256
  split
  · next h => simp [h]
  · simp

theorem zeroSum_iff (t : Bytes) : zeroSum t = true ↔ sumBytes t % 256 = 0 := by
  simp [zeroSum]

/-- The zero-sum rule accepts a byte behind a text exactly when it is the text's checksum (R122,
R126). -/
theorem zeroSum_append_singleton (t : Bytes) (c : Byte) :
    zeroSum (t ++ [c]) = true ↔ c = checksum t := by
  have := c.isLt
  rw [zeroSum_iff, BitVec.toNat_inj.symm]
  simp; omega

/-! ### The message frame (R135) -/

@[simp] theorem messagePrefix_length (fixed : Bool) (a : BitVec 16) (ch : Byte) :
    (messagePrefix fixed a ch).length = if fixed then 3 else 0 := by
  cases fixed <;> rfl

@[simp] theorem messageSuffix_length (useCs : Bool) (t : Bytes) :
    (messageSuffix useCs t).length = if useCs then 1 else 0 := by
  cases useCs <;> rfl

end Sys2Proof.Machine
end

