-- ==== Sys2Proof/Laws/State.lean ====
section
/-! SUPPORT. One lemma per field per update: what each named update of the state does to each field,
true by unfolding, so that no later proof unfolds a record update. -/

namespace Sys2Proof.Machine

@[simp] theorem deliver_cfr (o : Out) (s : State) :
    (deliver o s).cfr = s.cfr := rfl
@[simp] theorem deliver_model (o : Out) (s : State) :
    (deliver o s).model = s.model := rfl
@[simp] theorem deliver_port (o : Out) (s : State) :
    (deliver o s).port = s.port := rfl
@[simp] theorem deliver_freq (o : Out) (s : State) :
    (deliver o s).freq = s.freq := rfl
@[simp] theorem deliver_last (o : Out) (s : State) :
    (deliver o s).last = s.last := rfl
@[simp] theorem deliver_mode (o : Out) (s : State) :
    (deliver o s).mode = s.mode := rfl
@[simp] theorem deliver_store (o : Out) (s : State) :
    (deliver o s).store = s.store := rfl
@[simp] theorem deliver_env (o : Out) (s : State) :
    (deliver o s).env = s.env := rfl
@[simp] theorem deliver_trace (o : Out) (s : State) :
    (deliver o s).trace = s.trace := rfl
@[simp] theorem deliver_out (o : Out) (s : State) :
    (deliver o s).out = o := rfl
@[simp] theorem deliver_requests (o : Out) (s : State) :
    (deliver o s).requests = s.requests := rfl

@[simp] theorem raise_cfr (c : Cause) (s : State) :
    (raise c s).cfr = s.cfr := rfl
@[simp] theorem raise_model (c : Cause) (s : State) :
    (raise c s).model = s.model := rfl
@[simp] theorem raise_port (c : Cause) (s : State) :
    (raise c s).port = s.port := rfl
@[simp] theorem raise_freq (c : Cause) (s : State) :
    (raise c s).freq = s.freq := rfl
@[simp] theorem raise_last (c : Cause) (s : State) :
    (raise c s).last = s.last := rfl
@[simp] theorem raise_mode (c : Cause) (s : State) :
    (raise c s).mode = s.mode := rfl
@[simp] theorem raise_store (c : Cause) (s : State) :
    (raise c s).store = s.store := rfl
@[simp] theorem raise_env (c : Cause) (s : State) :
    (raise c s).env = s.env := rfl
@[simp] theorem raise_trace (c : Cause) (s : State) :
    (raise c s).trace = s.trace := rfl
@[simp] theorem raise_out (c : Cause) (s : State) :
    (raise c s).out = .fail c := rfl
@[simp] theorem raise_requests (c : Cause) (s : State) :
    (raise c s).requests = s.requests := rfl

@[simp] theorem raiseNoMessage_cfr (c : Cause) (s : State) :
    (raiseNoMessage c s).cfr = s.cfr := rfl
@[simp] theorem raiseNoMessage_model (c : Cause) (s : State) :
    (raiseNoMessage c s).model = s.model := rfl
@[simp] theorem raiseNoMessage_port (c : Cause) (s : State) :
    (raiseNoMessage c s).port = s.port := rfl
@[simp] theorem raiseNoMessage_freq (c : Cause) (s : State) :
    (raiseNoMessage c s).freq = s.freq := rfl
@[simp] theorem raiseNoMessage_last (c : Cause) (s : State) :
    (raiseNoMessage c s).last = lastAfterFailure s.last := rfl
@[simp] theorem raiseNoMessage_mode (c : Cause) (s : State) :
    (raiseNoMessage c s).mode = s.mode := rfl
@[simp] theorem raiseNoMessage_store (c : Cause) (s : State) :
    (raiseNoMessage c s).store = s.store := rfl
@[simp] theorem raiseNoMessage_env (c : Cause) (s : State) :
    (raiseNoMessage c s).env = s.env := rfl
@[simp] theorem raiseNoMessage_trace (c : Cause) (s : State) :
    (raiseNoMessage c s).trace = s.trace := rfl
@[simp] theorem raiseNoMessage_out (c : Cause) (s : State) :
    (raiseNoMessage c s).out = .noMessage c := rfl
@[simp] theorem raiseNoMessage_requests (c : Cause) (s : State) :
    (raiseNoMessage c s).requests = s.requests := rfl

@[simp] theorem emit_cfr (e : Event) (s : State) :
    (emit e s).cfr = s.cfr := rfl
@[simp] theorem emit_model (e : Event) (s : State) :
    (emit e s).model = s.model := rfl
@[simp] theorem emit_port (e : Event) (s : State) :
    (emit e s).port = s.port := rfl
@[simp] theorem emit_freq (e : Event) (s : State) :
    (emit e s).freq = s.freq := rfl
@[simp] theorem emit_last (e : Event) (s : State) :
    (emit e s).last = s.last := rfl
@[simp] theorem emit_mode (e : Event) (s : State) :
    (emit e s).mode = s.mode := rfl
@[simp] theorem emit_store (e : Event) (s : State) :
    (emit e s).store = s.store := rfl
@[simp] theorem emit_env (e : Event) (s : State) :
    (emit e s).env = s.env := rfl
@[simp] theorem emit_trace (e : Event) (s : State) :
    (emit e s).trace = s.trace ++ [e] := rfl
@[simp] theorem emit_out (e : Event) (s : State) :
    (emit e s).out = s.out := rfl
@[simp] theorem emit_requests (e : Event) (s : State) :
    (emit e s).requests = s.requests := rfl

@[simp] theorem wait_cfr (n : Nat) (s : State) :
    (wait n s).cfr = s.cfr := rfl
@[simp] theorem wait_model (n : Nat) (s : State) :
    (wait n s).model = s.model := rfl
@[simp] theorem wait_port (n : Nat) (s : State) :
    (wait n s).port = s.port := rfl
@[simp] theorem wait_freq (n : Nat) (s : State) :
    (wait n s).freq = s.freq := rfl
@[simp] theorem wait_last (n : Nat) (s : State) :
    (wait n s).last = s.last := rfl
@[simp] theorem wait_mode (n : Nat) (s : State) :
    (wait n s).mode = s.mode := rfl
@[simp] theorem wait_store (n : Nat) (s : State) :
    (wait n s).store = s.store := rfl
@[simp] theorem wait_env (n : Nat) (s : State) :
    (wait n s).env = s.env := rfl
@[simp] theorem wait_trace (n : Nat) (s : State) :
    (wait n s).trace = s.trace ++ [.wait n] := rfl
@[simp] theorem wait_out (n : Nat) (s : State) :
    (wait n s).out = s.out := rfl
@[simp] theorem wait_requests (n : Nat) (s : State) :
    (wait n s).requests = s.requests := rfl

@[simp] theorem persist_cfr (s : State) :
    (persist s).cfr = s.cfr := rfl
@[simp] theorem persist_model (s : State) :
    (persist s).model = s.model := rfl
@[simp] theorem persist_port (s : State) :
    (persist s).port = s.port := rfl
@[simp] theorem persist_freq (s : State) :
    (persist s).freq = s.freq := rfl
@[simp] theorem persist_last (s : State) :
    (persist s).last = s.last := rfl
@[simp] theorem persist_mode (s : State) :
    (persist s).mode = s.mode := rfl
@[simp] theorem persist_store (s : State) :
    (persist s).store = some (record s) := rfl
@[simp] theorem persist_env (s : State) :
    (persist s).env = s.env := rfl
@[simp] theorem persist_trace (s : State) :
    (persist s).trace = s.trace ++ [.persist (record s)] := rfl
@[simp] theorem persist_out (s : State) :
    (persist s).out = s.out := rfl
@[simp] theorem persist_requests (s : State) :
    (persist s).requests = s.requests := rfl

@[simp] theorem transportRead_cfr (s : State) :
    (transportRead s).cfr = s.cfr := rfl
@[simp] theorem transportRead_model (s : State) :
    (transportRead s).model = s.model := rfl
@[simp] theorem transportRead_port (s : State) :
    (transportRead s).port = s.port := rfl
@[simp] theorem transportRead_freq (s : State) :
    (transportRead s).freq = s.freq := rfl
@[simp] theorem transportRead_last (s : State) :
    (transportRead s).last = s.last := rfl
@[simp] theorem transportRead_mode (s : State) :
    (transportRead s).mode = s.mode := rfl
@[simp] theorem transportRead_store (s : State) :
    (transportRead s).store = s.store := rfl
@[simp] theorem transportRead_env (s : State) :
    (transportRead s).env = s.env.afterRead := rfl
@[simp] theorem transportRead_trace (s : State) :
    (transportRead s).trace = s.trace ++ [.read s.env.nextRead] := rfl
@[simp] theorem transportRead_out (s : State) :
    (transportRead s).out = s.out := rfl
@[simp] theorem transportRead_requests (s : State) :
    (transportRead s).requests = s.requests := rfl

@[simp] theorem transportWrite_cfr (b : Bytes) (s : State) :
    (transportWrite b s).cfr = s.cfr := rfl
@[simp] theorem transportWrite_model (b : Bytes) (s : State) :
    (transportWrite b s).model = s.model := rfl
@[simp] theorem transportWrite_port (b : Bytes) (s : State) :
    (transportWrite b s).port = s.port := rfl
@[simp] theorem transportWrite_freq (b : Bytes) (s : State) :
    (transportWrite b s).freq = s.freq := rfl
@[simp] theorem transportWrite_last (b : Bytes) (s : State) :
    (transportWrite b s).last = s.last := rfl
@[simp] theorem transportWrite_mode (b : Bytes) (s : State) :
    (transportWrite b s).mode = s.mode := rfl
@[simp] theorem transportWrite_store (b : Bytes) (s : State) :
    (transportWrite b s).store = s.store := rfl
@[simp] theorem transportWrite_env (b : Bytes) (s : State) :
    (transportWrite b s).env = s.env.afterWrite := rfl
@[simp] theorem transportWrite_trace (b : Bytes) (s : State) :
    (transportWrite b s).trace = s.trace ++ [.write b (WriteAnswer.sent b s.env.nextWrite)
      (WriteAnswer.isOk s.env.nextWrite)] := rfl
@[simp] theorem transportWrite_out (b : Bytes) (s : State) :
    (transportWrite b s).out = s.out := rfl
@[simp] theorem transportWrite_requests (b : Bytes) (s : State) :
    (transportWrite b s).requests = s.requests := rfl

@[simp] theorem poll_cfr (s : State) :
    (poll s).cfr = s.cfr := rfl
@[simp] theorem poll_model (s : State) :
    (poll s).model = s.model := rfl
@[simp] theorem poll_port (s : State) :
    (poll s).port = s.port := rfl
@[simp] theorem poll_freq (s : State) :
    (poll s).freq = s.freq := rfl
@[simp] theorem poll_last (s : State) :
    (poll s).last = s.last := rfl
@[simp] theorem poll_mode (s : State) :
    (poll s).mode = s.mode := rfl
@[simp] theorem poll_store (s : State) :
    (poll s).store = s.store := rfl
@[simp] theorem poll_env (s : State) :
    (poll s).env = s.env.afterPoll := rfl
@[simp] theorem poll_trace (s : State) :
    (poll s).trace = s.trace ++ [.poll s.env.nextIdle] := rfl
@[simp] theorem poll_out (s : State) :
    (poll s).out = s.out := rfl
@[simp] theorem poll_requests (s : State) :
    (poll s).requests = s.requests := rfl

@[simp] theorem setMode_cfr (m : Mode) (s : State) :
    (setMode m s).cfr = s.cfr := rfl
@[simp] theorem setMode_model (m : Mode) (s : State) :
    (setMode m s).model = s.model := rfl
@[simp] theorem setMode_port (m : Mode) (s : State) :
    (setMode m s).port = s.port := rfl
@[simp] theorem setMode_freq (m : Mode) (s : State) :
    (setMode m s).freq = s.freq := rfl
@[simp] theorem setMode_last (m : Mode) (s : State) :
    (setMode m s).last = s.last := rfl
@[simp] theorem setMode_mode (m : Mode) (s : State) :
    (setMode m s).mode = m := rfl
@[simp] theorem setMode_store (m : Mode) (s : State) :
    (setMode m s).store = s.store := rfl
@[simp] theorem setMode_env (m : Mode) (s : State) :
    (setMode m s).env = s.env := rfl
@[simp] theorem setMode_trace (m : Mode) (s : State) :
    (setMode m s).trace = (s.trace ++ [.setLines m]) ++ [.wait 50] := rfl
@[simp] theorem setMode_out (m : Mode) (s : State) :
    (setMode m s).out = s.out := rfl
@[simp] theorem setMode_requests (m : Mode) (s : State) :
    (setMode m s).requests = s.requests := rfl

@[simp] theorem unpackCfg_cfr (r : Frame6) (s : State) :
    (unpackCfg r s).cfr = unpackFields (cfgFields r) := rfl
@[simp] theorem unpackCfg_model (r : Frame6) (s : State) :
    (unpackCfg r s).model = s.model := rfl
@[simp] theorem unpackCfg_port (r : Frame6) (s : State) :
    (unpackCfg r s).port = s.port := rfl
@[simp] theorem unpackCfg_freq (r : Frame6) (s : State) :
    (unpackCfg r s).freq = s.freq := rfl
@[simp] theorem unpackCfg_last (r : Frame6) (s : State) :
    (unpackCfg r s).last = s.last := rfl
@[simp] theorem unpackCfg_mode (r : Frame6) (s : State) :
    (unpackCfg r s).mode = s.mode := rfl
@[simp] theorem unpackCfg_store (r : Frame6) (s : State) :
    (unpackCfg r s).store = s.store := rfl
@[simp] theorem unpackCfg_env (r : Frame6) (s : State) :
    (unpackCfg r s).env = s.env := rfl
@[simp] theorem unpackCfg_trace (r : Frame6) (s : State) :
    (unpackCfg r s).trace = s.trace := rfl
@[simp] theorem unpackCfg_out (r : Frame6) (s : State) :
    (unpackCfg r s).out = .ok := rfl
@[simp] theorem unpackCfg_requests (r : Frame6) (s : State) :
    (unpackCfg r s).requests = s.requests := rfl

@[simp] theorem takeRequest_cfr (rs : List Request) (s : State) :
    (takeRequest rs s).cfr = s.cfr := rfl
@[simp] theorem takeRequest_model (rs : List Request) (s : State) :
    (takeRequest rs s).model = s.model := rfl
@[simp] theorem takeRequest_port (rs : List Request) (s : State) :
    (takeRequest rs s).port = s.port := rfl
@[simp] theorem takeRequest_freq (rs : List Request) (s : State) :
    (takeRequest rs s).freq = s.freq := rfl
@[simp] theorem takeRequest_last (rs : List Request) (s : State) :
    (takeRequest rs s).last = s.last := rfl
@[simp] theorem takeRequest_mode (rs : List Request) (s : State) :
    (takeRequest rs s).mode = s.mode := rfl
@[simp] theorem takeRequest_store (rs : List Request) (s : State) :
    (takeRequest rs s).store = s.store := rfl
@[simp] theorem takeRequest_env (rs : List Request) (s : State) :
    (takeRequest rs s).env = s.env := rfl
@[simp] theorem takeRequest_trace (rs : List Request) (s : State) :
    (takeRequest rs s).trace = s.trace := rfl
@[simp] theorem takeRequest_out (rs : List Request) (s : State) :
    (takeRequest rs s).out = s.out := rfl
@[simp] theorem takeRequest_requests (rs : List Request) (s : State) :
    (takeRequest rs s).requests = rs := rfl

/-- The settle after a write touches nothing but the trace. -/
theorem settleAfterWrite_eq (ok : Bool) (s : State) :
    settleAfterWrite ok s = wait 50 s ∨ (settleAfterWrite ok s = s ∧ ok = false) := by
  unfold settleAfterWrite
  cases ok <;> by_cases h : Config.waitAfterWriteError = true <;> simp [h]

/-- After a write that succeeded the settle is made. -/
@[simp] theorem settleAfterWrite_true (s : State) : settleAfterWrite true s = wait 50 s := rfl

@[simp] theorem settleAfterWrite_cfr (ok : Bool) (s : State) :
    (settleAfterWrite ok s).cfr = s.cfr := by
  obtain h | ⟨h, -⟩ := settleAfterWrite_eq ok s <;> rw [h]; rfl
@[simp] theorem settleAfterWrite_model (ok : Bool) (s : State) :
    (settleAfterWrite ok s).model = s.model := by
  obtain h | ⟨h, -⟩ := settleAfterWrite_eq ok s <;> rw [h]; rfl
@[simp] theorem settleAfterWrite_port (ok : Bool) (s : State) :
    (settleAfterWrite ok s).port = s.port := by
  obtain h | ⟨h, -⟩ := settleAfterWrite_eq ok s <;> rw [h]; rfl
@[simp] theorem settleAfterWrite_freq (ok : Bool) (s : State) :
    (settleAfterWrite ok s).freq = s.freq := by
  obtain h | ⟨h, -⟩ := settleAfterWrite_eq ok s <;> rw [h]; rfl
@[simp] theorem settleAfterWrite_last (ok : Bool) (s : State) :
    (settleAfterWrite ok s).last = s.last := by
  obtain h | ⟨h, -⟩ := settleAfterWrite_eq ok s <;> rw [h]; rfl
@[simp] theorem settleAfterWrite_mode (ok : Bool) (s : State) :
    (settleAfterWrite ok s).mode = s.mode := by
  obtain h | ⟨h, -⟩ := settleAfterWrite_eq ok s <;> rw [h]; rfl
@[simp] theorem settleAfterWrite_store (ok : Bool) (s : State) :
    (settleAfterWrite ok s).store = s.store := by
  obtain h | ⟨h, -⟩ := settleAfterWrite_eq ok s <;> rw [h]; rfl
@[simp] theorem settleAfterWrite_env (ok : Bool) (s : State) :
    (settleAfterWrite ok s).env = s.env := by
  obtain h | ⟨h, -⟩ := settleAfterWrite_eq ok s <;> rw [h]; rfl
@[simp] theorem settleAfterWrite_out (ok : Bool) (s : State) :
    (settleAfterWrite ok s).out = s.out := by
  obtain h | ⟨h, -⟩ := settleAfterWrite_eq ok s <;> rw [h]; rfl
@[simp] theorem settleAfterWrite_requests (ok : Bool) (s : State) :
    (settleAfterWrite ok s).requests = s.requests := by
  obtain h | ⟨h, -⟩ := settleAfterWrite_eq ok s <;> rw [h]; rfl

/-- A state is the tuple of its fields: equal fields, equal states. -/
theorem State.eq_of_fields (s t : State) (h1 : s.cfr = t.cfr) (h2 : s.model = t.model)
    (h3 : s.port = t.port) (h4 : s.freq = t.freq) (h5 : s.last = t.last) (h6 : s.mode = t.mode)
    (h7 : s.store = t.store) (h8 : s.env = t.env) (h9 : s.trace = t.trace) (h10 : s.out = t.out)
    (h11 : s.requests = t.requests) : s = t := by
  cases s; cases t; simp_all

/-- Taking the request that `withFetchWord` placed gives the state back. -/
@[simp] theorem takeRequest_withFetchWord (s : State) (n w : Nat) :
    takeRequest s.requests (s.withFetchWord n w) = s := rfl

end Sys2Proof.Machine
end

