-- ==== Sys2Proof/Laws/Protocol.lean ====
section
/-! SUPPORT. Everything a register-level command, a response contract and a step can do, said once:
inversion lemmas to be cited instead of unfolding the procedures (44_command_protocol.md R150 to
R166). -/

namespace Sys2Proof.Machine

/-- A configuration response is taken whole or not at all (R157, R158). -/
theorem respondConfig_cases (resp : Bytes) (s : State) :
    (∃ r : Frame6, resp = r.toBytes ∧ respondConfig resp s = persist (unpackCfg r s)) ∨
    (resp.length ≠ 6 ∧ respondConfig resp s = raise .protocol s) := by
  unfold respondConfig
  split
  · next b0 b1 b2 b3 b4 b5 => exact .inl ⟨⟨b0, b1, b2, b3, b4, b5⟩, rfl, rfl⟩
  · next h =>
    refine .inr ⟨fun hl => ?_, rfl⟩
    match resp, hl with
    | [b0, b1, b2, b3, b4, b5], _ => exact h _ _ _ _ _ _ rfl

/-- A version response is taken whole or not at all (R156). -/
theorem respondVersion_cases (resp : Bytes) (s : State) :
    (∃ r : Frame4, resp = r.toBytes ∧ respondVersion resp s = unpackVer r s) ∨
    (resp.length ≠ 4 ∧ respondVersion resp s = raise .protocol s) := by
  unfold respondVersion
  split
  · next b0 b1 b2 b3 => exact .inl ⟨⟨b0, b1, b2, b3⟩, rfl, rfl⟩
  · next h =>
    refine .inr ⟨fun hl => ?_, rfl⟩
    match resp, hl with
    | [b0, b1, b2, b3], _ => exact h _ _ _ _ rfl

/-- The bytes a read answer counts as: `none` is length 0 (R155). -/
def answerBytes : ReadAnswer → Bytes
  | .bytes b => b
  | .nothing => []
  | .error => []

/-- Everything step 4 of a command can do (R155). -/
theorem readResponse_cases (c : Command) (s : State) :
    (s.env.nextRead = .error ∧ readResponse c s = raise .transport (wait 50 (transportRead s))) ∨
    (s.env.nextRead ≠ .error ∧
      readResponse c s = respond c (answerBytes s.env.nextRead) (wait 50 (transportRead s))) := by
  unfold readResponse
  cases h : s.env.nextRead <;> simp [answerBytes]

/-- Everything steps 3 and 4 of a command can do (R154, R155, R160). -/
theorem exchange_cases (c : Command) (frame : Bytes) (s : State) :
    (WriteAnswer.isOk s.env.nextWrite = false ∧
      exchange c frame s = raise .transport (settleAfterWrite false (transportWrite frame s))) ∨
    (WriteAnswer.isOk s.env.nextWrite = true ∧ c = .reset ∧
      exchange c frame s = deliver .ok (wait 50 (transportWrite frame s))) ∨
    (WriteAnswer.isOk s.env.nextWrite = true ∧ c ≠ .reset ∧
      exchange c frame s = readResponse c (wait 50 (transportWrite frame s))) := by
  unfold exchange
  cases h : WriteAnswer.isOk s.env.nextWrite <;> cases c <;> simp

/-- Everything a register-level command can do (R150, R166): a `NULL` field stops a set-config command
before any I/O, every other command reaches the exchange. -/
theorem runCommand_cases (c : Command) (s : State) :
    (commandFrame c s.cfr = none ∧ runCommand c s = raise .validation (setMode .sleep s)) ∨
    (∃ frame, commandFrame c s.cfr = some frame ∧
      runCommand c s = exchange c frame (setMode .sleep s)) := by
  unfold runCommand
  simp only [setMode_cfr]
  cases h : commandFrame c s.cfr <;> simp

/-- A wire command runs the command procedure. -/
theorem exec_of_isCommand {i : Instr} (h : isCommand i = true) (s : State) :
    ∃ c, exec i s = .next (runCommand c s) := by
  cases i with
  | setConfigPwrDwnSave _ => exact ⟨_, rfl⟩
  | setConfigPwrDwnNoSave _ => exact ⟨_, rfl⟩
  | getConfig => exact ⟨_, rfl⟩
  | getVersion => exact ⟨_, rfl⟩
  | reset => exact ⟨_, rfl⟩
  | _ => simp [isCommand] at h

/-- Everything RXDEFRAME of bytes can do (R142). -/
theorem deframe_cases (useCs : Bool) (rxb : Bytes) (s : State) :
    (useCs = true ∧ zeroSum rxb = false ∧ deframe useCs rxb s = raiseNoMessage .integrity s) ∨
    ((useCs = true → zeroSum rxb = true) ∧
      ((Config.parse (receivedText useCs rxb) = none ∧
          deframe useCs rxb s = raiseNoMessage .parse s) ∨
        (∃ p, Config.parse (receivedText useCs rxb) = some p ∧
          deframe useCs rxb s = deliver (.message p) { s with last := some p }))) := by
  unfold deframe
  cases useCs <;> cases hz : zeroSum rxb <;>
    cases hp : Config.parse (receivedText _ rxb) <;> simp_all

/-- Everything the decoder answers on a command frame (R71, R72, R86, R93): one of the three triplicated
commands, a register frame with one of the two headers, or a rejection that counts as `PROTOCOL`. -/
theorem decodeCommand_cases (bs : Bytes) :
    (bs = [0xC1#8, 0xC1#8, 0xC1#8] ∧ decodeCommand bs = .ok .getConfig) ∨
    (bs = [0xC3#8, 0xC3#8, 0xC3#8] ∧ decodeCommand bs = .ok .getVersion) ∨
    (bs = [0xC4#8, 0xC4#8, 0xC4#8] ∧ decodeCommand bs = .ok .reset) ∨
    (∃ r : Frame6, bs = r.toBytes ∧
      (r.b0 = 0xC0#8 ∧ decodeCommand bs = .ok (.setConfigPwrDwnSave (cfgFields r)) ∨
        r.b0 = 0xC2#8 ∧ decodeCommand bs = .ok (.setConfigPwrDwnNoSave (cfgFields r)))) ∨
    (∃ e, decodeCommand bs = .error e ∧ DecodeReject.cause e = .protocol) := by
  unfold decodeCommand
  split
  · split
    · next hk =>
      obtain ⟨rfl, rfl⟩ := hk
      split
      · next h => subst h; exact .inl ⟨rfl, rfl⟩
      · split
        · next h => subst h; exact .inr (.inl ⟨rfl, rfl⟩)
        · split
          · next h => subst h; exact .inr (.inr (.inl ⟨rfl, rfl⟩))
          · exact .inr (.inr (.inr (.inr ⟨_, rfl, rfl⟩)))
    · exact .inr (.inr (.inr (.inr ⟨_, rfl, rfl⟩)))
  · next b0 b1 b2 b3 b4 b5 =>
    split
    · next h => exact .inr (.inr (.inr (.inl ⟨⟨b0, b1, b2, b3, b4, b5⟩, rfl, .inl ⟨h, rfl⟩⟩)))
    · split
      · next h => exact .inr (.inr (.inr (.inl ⟨⟨b0, b1, b2, b3, b4, b5⟩, rfl, .inr ⟨h, rfl⟩⟩)))
      · exact .inr (.inr (.inr (.inr ⟨_, rfl, rfl⟩)))
  · exact .inr (.inr (.inr (.inr ⟨_, rfl, rfl⟩)))

/-- The three ways a step goes: nothing pending, an instruction word, a host procedure. -/
theorem step_cases (s : State) :
    (s.requests = [] ∧ step s = .next s) ∨
    (∃ e rest, s.requests = .word e :: rest ∧
      ((∃ i, decode e = .ok i ∧ step s = exec i (takeRequest rest s)) ∨
        (∃ r, decode e = .error r ∧ step s = rejectWord r (takeRequest rest s)))) ∨
    (∃ h rest, s.requests = .call h :: rest ∧ step s = runHostCall h (takeRequest rest s)) := by
  unfold step
  cases hr : s.requests with
  | nil => simp
  | cons r rest =>
    cases r with
    | word e => cases hd : decode e <;> simp [runRequest, hd]
    | call h => simp [runRequest]

end Sys2Proof.Machine
end

