-- ==== Sys2Proof/Laws/Framer.lean ====
section
/-! SUPPORT. Everything the codec's and the framer's operations and the host procedures around them can
do, said once (41_bitfield_codec.md, 43_message_framer.md, 45_config_model.md). -/

namespace Sys2Proof.Machine

/-- PACK_CFG delivers a frame or a validation failure and nothing else (R100, R101). -/
theorem packCfg_cases (hdr : Byte) (s : State) :
    (∃ f, packFields s.cfr = some f ∧
      packCfg hdr s = deliver { Out.ok with frame6 := some (cfgFrame hdr f) } s) ∨
    (packFields s.cfr = none ∧ packCfg hdr s = raise .validation s) := by
  unfold packCfg packFrame
  cases packFields s.cfr <;> simp

/-- TXFRAME delivers a message or a validation failure and nothing else (R131, R135). -/
theorem txframe_cases (isMap useCs : Bool) (a : BitVec 16) (ch : Byte) (text : Bytes) (s : State) :
    (isMap = true ∧ txframe isMap useCs a ch text s =
      deliver { Out.ok with msg := some (messageFrame (fixedMode s.cfr) useCs a ch text) } s) ∨
    (isMap = false ∧ txframe isMap useCs a ch text s = raise .validation s) := by
  cases isMap <;> simp [txframe]

/-- RXDEFRAME ends with nothing read, or deframes the bytes that are there (R136, R142). -/
theorem rxdeframe_cases (useCs : Bool) (rxb : Option Bytes) (s : State) :
    (rxb.getD [] = [] ∧ rxdeframe useCs rxb s = raiseNoMessage .none s) ∨
    (∃ bs, bs ≠ [] ∧ rxb = some bs ∧ rxdeframe useCs rxb s = deframe useCs bs s) := by
  rcases rxb with _ | (_ | ⟨x, xs⟩)
  · exact .inl ⟨rfl, rfl⟩
  · exact .inl ⟨rfl, rfl⟩
  · exact .inr ⟨x :: xs, by simp, rfl, rfl⟩

/-- `LAST` after a failed receive is the old value or `NULL` (R138). -/
theorem lastAfterFailure_cases (last : Option Payload) :
    lastAfterFailure last = last ∨ lastAfterFailure last = none := by
  unfold lastAfterFailure
  split <;> simp

/-- The invariant's part on `LAST` survives any deframe: what is kept came from `Parse`, from before, or
is `NULL` (R36, R138). -/
theorem rxdeframe_last (useCs : Bool) (rxb : Option Bytes) (s : State) :
    (rxdeframe useCs rxb s).last = s.last ∨ (rxdeframe useCs rxb s).last = none ∨
    ∃ p text, (rxdeframe useCs rxb s).last = some p ∧ Config.parse text = some p := by
  have failed (c : Cause) : (raiseNoMessage c s).last = s.last ∨ (raiseNoMessage c s).last = none :=
    lastAfterFailure_cases s.last
  rcases rxdeframe_cases useCs rxb s with ⟨-, h⟩ | ⟨bs, -, -, h⟩ <;> rw [h]
  · exact (failed _).imp id .inl
  · rcases deframe_cases useCs bs s with ⟨-, -, h⟩ | ⟨-, ⟨-, h⟩ | ⟨p, hp, h⟩⟩ <;> rw [h]
    · exact (failed _).imp id .inl
    · exact (failed _).imp id .inl
    · exact .inr (.inr ⟨p, _, rfl, hp⟩)

/-- Send fails before any I/O, or waits and writes one frame (R140). -/
theorem send_cases (p : Payload) (useCs : Bool) (a : BitVec 16) (ch : Byte) (s : State) :
    send p useCs a ch s = raise .validation s ∨
    ∃ text, Config.isMap p = true ∧ Config.serialize p = some text ∧
      send p useCs a ch s =
        deliver (if WriteAnswer.isOk s.env.nextWrite then .ok else .fail .transport)
          (transportWrite (messageFrame (fixedMode s.cfr) useCs a ch text) (wait 300 s)) := by
  unfold send
  cases hm : Config.isMap p
  · simp
  · cases hs : Config.serialize p with
    | none => simp
    | some text =>
      refine .inr ⟨text, rfl, rfl, ?_⟩
      cases h : WriteAnswer.isOk s.env.nextWrite <;> simp [h, raise]

/-- Polls take nothing from the transport: its reads and writes are untouched (R164, R203). -/
theorem afterPoll_iterate_transport (k : Nat) (e : Env) :
    (Env.afterPoll^[k] e).reads = e.reads ∧ (Env.afterPoll^[k] e).writes = e.writes := by
  induction k generalizing e with
  | zero => exact ⟨rfl, rfl⟩
  | succ k ih =>
    have once : e.afterPoll.reads = e.reads ∧ e.afterPoll.writes = e.writes := by
      unfold Env.afterPoll
      split <;> exact ⟨rfl, rfl⟩
    rw [Function.iterate_succ_apply]
    exact ⟨(ih _).1.trans once.1, (ih _).2.trans once.2⟩

/-- One round of the idle-wait loop (R164). -/
theorem idlePolls_succ (n : Nat) (s : State) :
    (s.env.nextIdle = true ∧ idlePolls (n + 1) s = poll s) ∨
    (s.env.nextIdle = false ∧ idlePolls (n + 1) s = idlePolls n (wait 10 (poll s))) := by
  cases h : s.env.nextIdle <;> simp [idlePolls, h]

/-- The channel clamp of `start` as a minimum (R175). -/
theorem clampChannel_toNat (c : Byte) : (clampChannel c).toNat = min c.toNat 31 := by
  unfold clampChannel
  split <;> simp <;> omega

/-- The record `start` makes holds no `NULL` and packs (R175, R219). -/
theorem packFields_startRecord (a : BitVec 16) (c : Byte) (m : BitVec 1) (s : State) :
    packFields (startRecord a c m s).cfr ≠ none := by
  simp [packFields_eq_none, startRecord, startCfr]

end Sys2Proof.Machine
end

