-- ==== Sys2Proof/Laws/PerInstr.lean ====
section
/-! SUPPORT. Statements made once per instruction. Family `RowFormat`: the encoding of an instruction
has the format its row of spec/opcode_table.json names (30_encoding.md R70, R86, R87, R93). -/

namespace Sys2Proof.Laws.RowFormat

open Sys2Proof.Machine

/-- The formats of R70. -/
inductive Format
  | cfg6 | cmd3 | rsp6 | rsp4 | msg | op (sel : Nat)
  deriving DecidableEq, Repr

/-- The format of an instruction's row. -/
def rowFormat : Instr → Format
  | .setConfigPwrDwnSave _ => .cfg6
  | .setConfigPwrDwnNoSave _ => .cfg6
  | .getConfig => .cmd3
  | .getVersion => .cmd3
  | .reset => .cmd3
  | .rsp6ConfigResponse _ _ => .rsp6
  | .rsp4VersionResponse _ _ _ _ => .rsp4
  | .msgTransparent _ _ => .msg
  | .msgFixed _ _ _ _ => .msg
  | .msgReceived _ _ => .msg
  | .packCfg _ => .op 0
  | .unpackCfg _ => .op 1
  | .unpackVer _ => .op 2
  | .csum _ => .op 3
  | .csverify _ => .op 4
  | .txframe _ _ _ _ _ => .op 5
  | .rxdeframe _ _ => .op 6
  | .reservedOp => .op 7

/-- An encoded form has a format: the direction, the length and the header decide it (R93, R94). -/
def HasFormat : Encoded → Format → Prop
  | .commandFrame bs, .cfg6 => bs.length = 6 ∧ (bs.head? = some 0xC0#8 ∨ bs.head? = some 0xC2#8)
  | .commandFrame bs, .cmd3 => ∃ k, bs = [k, k, k] ∧ (k = 0xC1#8 ∨ k = 0xC3#8 ∨ k = 0xC4#8)
  | .response bs, .rsp6 => bs.length = 6
  | .response bs, .rsp4 => bs.length = 4
  | .outMessage fixed useCs bs, .msg =>
    (if fixed then 3 else 0) + (if useCs then 1 else 0) ≤ bs.length
  | .inMessage _ _, .msg => True
  | .op sel _, .op n => sel.toNat = n
  | _, _ => False

def Statement (i : Instr) : Prop := HasFormat (encode i) (rowFormat i)

theorem setConfigPwrDwnSave (f : CfgFields) : Statement (.setConfigPwrDwnSave f) :=
  ⟨rfl, .inl rfl⟩

theorem setConfigPwrDwnNoSave (f : CfgFields) : Statement (.setConfigPwrDwnNoSave f) :=
  ⟨rfl, .inr rfl⟩

theorem getConfig : Statement .getConfig := ⟨_, rfl, .inl rfl⟩

theorem getVersion : Statement .getVersion := ⟨_, rfl, .inr (.inl rfl)⟩

theorem reset : Statement .reset := ⟨_, rfl, .inr (.inr rfl)⟩

theorem rsp6ConfigResponse (h : Byte) (f : CfgFields) : Statement (.rsp6ConfigResponse h f) := rfl

theorem rsp4VersionResponse (h q v e : Byte) : Statement (.rsp4VersionResponse h q v e) := rfl

theorem msgTransparent (useCs : Bool) (text : Bytes) : Statement (.msgTransparent useCs text) := by
  cases useCs <;>
    simp [Statement, encode, HasFormat, rowFormat, messageFrame, messagePrefix, messageSuffix]

theorem msgFixed (a : BitVec 16) (c : Byte) (useCs : Bool) (text : Bytes) :
    Statement (.msgFixed a c useCs text) := by
  cases useCs <;>
    simp [Statement, encode, HasFormat, rowFormat, messageFrame, messagePrefix, messageSuffix]

theorem msgReceived (useCs : Bool) (rxb : Bytes) : Statement (.msgReceived useCs rxb) := trivial

theorem packCfg (hdr : Byte) : Statement (.packCfg hdr) := rfl

theorem unpackCfg (r : Frame6) : Statement (.unpackCfg r) := rfl

theorem unpackVer (r : Frame4) : Statement (.unpackVer r) := rfl

theorem csum (text : Bytes) : Statement (.csum text) := rfl

theorem csverify (text : Bytes) : Statement (.csverify text) := rfl

theorem txframe (m u : Bool) (a : BitVec 16) (c : Byte) (text : Bytes) :
    Statement (.txframe m u a c text) := rfl

theorem rxdeframe (useCs : Bool) (rxb : Option Bytes) : Statement (.rxdeframe useCs rxb) := rfl

theorem reservedOp : Statement .reservedOp := rfl

end Sys2Proof.Laws.RowFormat
end

