-- ==== Sys2Proof/Tests/Slice0.lean ====
section
/-! SUPPORT. The model's own tests: words written out bit by bit from the formats of 30_encoding.md, the
checks of WellFormed, vectors of 95_test_vectors.md that use only the pinned codes, and for every
statement with hypotheses the concrete values that meet them. -/

namespace Sys2Proof.Tests

open Sys2Proof.Machine

/-! ### A small state -/

/-- The record of the source's scenario 1 (S1, K1), all codes pinned. -/
def demoCfr : Cfr := ⟨0x0006#16, some .p8N1, some .b9600, some .d2k4, 6#8, 0#1, 1#1, 0#3, 1#1, 0#2⟩

/-- What was persisted last in the small state. -/
def demoRecord : Record := ⟨"433T20S", "U1", 416, demoCfr⟩

/-- A transport that answers one write and one read. -/
def demoEnv (w : WriteAnswer) (r : ReadAnswer) : Env :=
  { reads := [r], writes := [w], idles := [], drawn := 0 }

/-- A state with a past: one command has been sent and its record persisted. -/
def demo (requests : List Request) (env : Env := demoEnv .ok (.bytes [0xC0, 0, 6, 0x1A, 6, 0x44]))
    (cfr : Cfr := demoCfr) : State :=
  { cfr := cfr, model := "433T20S", port := "U1", freq := 416, last := none, mode := .sleep,
    store := some demoRecord, env := env,
    trace := [.setLines .sleep, .wait 50, .write [0xC1, 0xC1, 0xC1] [0xC1, 0xC1, 0xC1] true,
      .wait 50, .read (.bytes [0xC0, 0, 6, 0x1A, 6, 0x44]), .wait 50, .persist demoRecord],
    out := {}, requests := requests }

/-- The text `{"t":21.5}` of the source's scenario 2 (S2). -/
def textT : Bytes := [0x7B, 0x22, 0x74, 0x22, 0x3A, 0x32, 0x31, 0x2E, 0x35, 0x7D]

/-! ### Decoding: words written out from the formats of R71 to R75 and R87 -/

/-- R71 with the fields of K6: `11000000 address 01 100 011 channel 1 0 101 0 10`. -/
theorem test_decode_setConfigPwrDwnSave :
    decodeTableWord 48 0b110000001010101111001101011000110001011110101010 =
      some (.setConfigPwrDwnSave
        ⟨0xABCD#16, 0b01#2, 0b100#3, 0b011#3, 23#8, 1#1, 0#1, 5#3, 0#1, 2#2⟩) := by decide

/-- R71 with the fields of K4: `11000010 address 10 111 101 channel 1 1 111 1 11`. -/
theorem test_decode_setConfigPwrDwnNoSave :
    decodeTableWord 48 0b110000101111111111111111101111010001111111111111 =
      some (.setConfigPwrDwnNoSave
        ⟨0xFFFF#16, 0b10#2, 0b111#3, 0b101#3, 31#8, 1#1, 1#1, 7#3, 1#1, 3#2⟩) := by decide

/-- R72, R86. -/
theorem test_decode_commands :
    decodeTableWord 24 0b110000011100000111000001 = some .getConfig ∧
    decodeTableWord 24 0b110000111100001111000011 = some .getVersion ∧
    decodeTableWord 24 0b110001001100010011000100 = some .reset := by decide

/-- R73 with the bytes of UC5: `00 12 34 DE 28 7B`. -/
theorem test_decode_rsp6 :
    decodeTableWord 48 0x001234DE287B =
      some (.rsp6ConfigResponse 0#8
        ⟨0x1234#16, 0b11#2, 0b011#3, 0b110#3, 40#8, 0#1, 1#1, 7#3, 0#1, 3#2⟩) := by decide

/-- R74 with the bytes of V3. -/
theorem test_decode_rsp4 :
    decodeTableWord 32 0x0046FF00 = some (.rsp4VersionResponse 0#8 0x46#8 0xFF#8 0#8) := by decide

/-- R75: the frames of T2 and T6, and the bytes of RX4 as they come. -/
theorem test_decode_messages :
    decode (.outMessage false true (textT ++ [0x50])) = .ok (.msgTransparent true textT) ∧
    decode (.outMessage true true [0x01, 0x02, 0x17, 0x7B, 0x7D, 0x08]) =
      .ok (.msgFixed 0x0102#16 0x17#8 true [0x7B, 0x7D]) ∧
    decode (.inMessage true (textT ++ [0x51])) = .ok (.msgReceived true (textT ++ [0x51])) := by
  decide

/-- R87, R92: the eight values of `OP`. -/
theorem test_decode_operations :
    (List.range 8).map (decodeTableWord 8) =
      [some (.packCfg 0), some (.unpackCfg ⟨0, 0, 0, 0, 0, 0⟩), some (.unpackVer ⟨0, 0, 0, 0⟩),
       some (.csum []), some (.csverify []), some (.txframe false false 0 0 []),
       some (.rxdeframe false none), some .reservedOp] := by decide

/-- What is no frame is rejected by name: R72, R90, R93 and R75. -/
theorem test_decode_rejects :
    decode (.commandFrame [0xC1, 0xC1, 0xC3]) = .error .notTriplicated ∧
    decode (.commandFrame [0xC5, 0xC5, 0xC5]) = .error (.unknownCommand 0xC5) ∧
    decode (.commandFrame [0xC1, 0, 0, 0, 0, 0]) = .error (.unknownCommand 0xC1) ∧
    decode (.commandFrame [0xC0, 0, 0, 0, 0]) = .error (.commandLength 5) ∧
    decode (.response [0xC0, 0, 0, 0, 0]) = .error (.responseLength 5) ∧
    decode (.outMessage true false [0, 0]) = .error .prefixMissing ∧
    decode (.outMessage false true []) = .error .checksumMissing ∧
    decode (.outMessage false true [0x7B, 0x7D, 0x09]) = .error .checksumWrong := by decide

/-! ### WellFormed: one ill-formed term for each check -/

/-- Channel 32 is the first illegal one (R25); each of the two register frames refuses it. -/
theorem test_wellFormed_refuses_channel :
    WellFormed (.setConfigPwrDwnSave ⟨0, 0, 0, 0, 32, 0, 0, 0, 0, 0⟩) = false ∧
    WellFormed (.setConfigPwrDwnNoSave ⟨0, 0, 0, 0, 32, 0, 0, 0, 0, 0⟩) = false := by decide

/-- Channel 31 is the last legal one (R25), and a response may carry any channel (R89). -/
theorem test_wellFormed_accepts_channel :
    WellFormed (.setConfigPwrDwnSave ⟨0, 0, 0, 0, 31, 0, 0, 0, 0, 0⟩) = true ∧
    WellFormed (.setConfigPwrDwnNoSave ⟨0, 0, 0, 0, 31, 0, 0, 0, 0, 0⟩) = true ∧
    WellFormed (.rsp6ConfigResponse 0 ⟨0, 0, 0, 0, 255, 0, 0, 0, 0, 0⟩) = true := by decide

/-! ### Vectors of 95_test_vectors.md -/

/-- K1, K14, K11: the frame, the header copied unchecked, the channel above 31 emitted. -/
theorem test_packFrame :
    packFrame 0xC0 demoCfr = some ⟨0xC0, 0x00, 0x06, 0x1A, 0x06, 0x44⟩ ∧
    packFrame 0x00 demoCfr = some ⟨0x00, 0x00, 0x06, 0x1A, 0x06, 0x44⟩ ∧
    packFrame 0xC0 { demoCfr with chan := 40 } = some ⟨0xC0, 0x00, 0x06, 0x1A, 0x28, 0x44⟩ := by
  simp [packFrame, packFields, cfgFrame, demoCfr]; decide

/-- K12, K13. -/
theorem test_packFrame_null :
    packFrame 0xC0 { demoCfr with parity := none } = none ∧
    packFrame 0xC0 { demoCfr with drate := none } = none := ⟨rfl, rfl⟩

/-- UC1. -/
theorem test_unpackCfg :
    (unpackCfg ⟨0xC0, 0x00, 0x06, 0x1A, 0x06, 0x44⟩ (demo [])).cfr = demoCfr := by
  have hp : parityInv 0b00#2 = some .p8N1 := parityInv_eq_some.mpr Config.parityCode_8N1
  have hb : baudInv 0b011#3 = some .b9600 := baudInv_eq_some.mpr Config.baudCode_9600
  have hd : drateInv 0b010#3 = some .d2k4 := drateInv_eq_some.mpr Config.drateCode_2k4
  have hf : cfgFields ⟨0xC0#8, 0x00#8, 0x06#8, 0x1A#8, 0x06#8, 0x44#8⟩ =
      ⟨0x0006#16, 0b00#2, 0b011#3, 0b010#3, 6#8, 0#1, 1#1, 0#3, 1#1, 0#2⟩ := by decide
  simp [unpackCfg, hf, unpackFields, hp, hb, hd, demoCfr]

/-- The extraction rows of 2.2: bytes 3 `DE`, `67` and 5 `C4`, `7B`. -/
theorem test_cfgFields :
    cfgFields ⟨0, 0, 0, 0xDE, 0, 0xC4⟩ = ⟨0, 0b11, 0b011, 0b110, 0, 1, 1, 0, 1, 0⟩ ∧
    cfgFields ⟨0, 0, 0, 0x67, 0, 0x7B⟩ = ⟨0, 0b01, 0b100, 0b111, 0, 0, 1, 7, 0, 3⟩ := by decide

/-- V2, V3: bytes 2 and 3 come out raw. -/
theorem test_unpackVer :
    (unpackVer ⟨0xC3, 0x00, 0x01, 0x02⟩ (demo [])).out.vver = some 0x01 ∧
    (unpackVer ⟨0x00, 0x46, 0xFF, 0x00⟩ (demo [])).out.vfeat = some 0x00 := ⟨rfl, rfl⟩

/-- X1, X3, X5, X6, X8, X10, X11, X12. -/
theorem test_checksum :
    checksum [] = 0x00 ∧ checksum [0x01] = 0xFF ∧ checksum [0x80] = 0x80 ∧
    checksum [0x80, 0x80] = 0x00 ∧ checksum [0x7B, 0x7D] = 0x08 ∧
    checksum [0x68, 0x65, 0x6C, 0x6C, 0x6F] = 0xEC ∧ checksum textT = 0x50 ∧
    checksum [0x7B, 0x22, 0x74, 0x22, 0x3A, 0x20, 0x32, 0x31, 0x2E, 0x35, 0x7D] = 0x30 := by decide

/-- The CSVERIFY line under X13. -/
theorem test_zeroSum :
    zeroSum [] = true ∧ zeroSum [0x01] = false ∧ zeroSum [0x7B, 0x7D, 0x09] = false ∧
    zeroSum [0x7B, 0x7D, 0x08] = true ∧ zeroSum textT = false := by decide

/-- T4: the prefix goes out in front and is not summed. -/
theorem test_txframe_fixed :
    (txframe true true 0x0003 0x04 textT (demo [] (cfr := { demoCfr with tmode := 1 }))).out.msg =
      some ([0x00, 0x03, 0x04] ++ textT ++ [0x50]) := by decide

/-- T2, T7, T10. -/
theorem test_txframe_transparent :
    (txframe true true 0x0003 0x04 textT (demo [])).out.msg = some (textT ++ [0x50]) ∧
    (txframe true true 0 0 [] (demo [])).out.msg = some [0x00] ∧
    (txframe false true 0 0 textT (demo [])).out = { outcome := some .fail, cause := .validation } := by
  decide

/-- RX1, RX4, RX11, RX13. -/
theorem test_rxdeframe_noMessage :
    (rxdeframe true none (demo [])).out = { outcome := some .noMessage, cause := .none } ∧
    (rxdeframe true (some (textT ++ [0x51])) (demo [])).out.cause = .integrity ∧
    (rxdeframe true (some [0x01]) (demo [])).out.cause = .integrity ∧
    (rxdeframe true (some ([0x00, 0x03, 0x04] ++ textT ++ [0x50])) (demo [])).out.cause =
      .integrity := by decide

/-- RX3, RX8, RX10: the text that goes to `Parse`. -/
theorem test_receivedText :
    receivedText true (textT ++ [0x50]) = textT ∧ receivedText false textT = textT ∧
    receivedText true [0x00] = [] := by decide

/-- F5, F6, F7, F8. -/
theorem test_derivation :
    let b : BandLimits := ⟨410, 441, by decide⟩
    let c : BandLimits := ⟨160, 173, by decide⟩
    (deriveFreq b (clampChannel 40), deriveChannel b (clampChannel 40)) = (441, 31#8) ∧
    (deriveFreq b (clampChannel 255), deriveChannel b (clampChannel 255)) = (441, 31#8) ∧
    (deriveFreq c (clampChannel 20), deriveChannel c (clampChannel 20)) = (173, 13#8) ∧
    (deriveFreq c (clampChannel 13), deriveChannel c (clampChannel 13)) = (173, 13#8) := by decide

/-- P4 step 1: three bytes to `getVersion`. -/
theorem test_getVersion_wrong_length :
    (runCommand .getVersion (demo [] (demoEnv .ok (.bytes [0xC3, 0x32, 0x45])))).out =
      { outcome := some .fail, cause := .protocol } := rfl

/-- P4 step 2: four bytes to `getVersion`; the mode is `sleep` after it. -/
theorem test_getVersion :
    let t := runCommand .getVersion (demo [] (demoEnv .ok (.bytes [0xC3, 0x32, 0x45, 0x14])))
    t.out.vver = some 0x45 ∧ t.out.vfeat = some 0x14 ∧ t.mode = .sleep := ⟨rfl, rfl, rfl⟩

/-- P4 step 3: `reset` writes three bytes and reads nothing. -/
theorem test_reset :
    (runCommand .reset (demo [])).trace.drop 7 =
      [.setLines .sleep, .wait 50, .write [0xC4, 0xC4, 0xC4] [0xC4, 0xC4, 0xC4] true, .wait 50] := rfl

/-- P1 steps 5a to 5f: the frame on the wire and the order of the steps. -/
theorem test_setConfig_trace :
    (runCommand .setConfigPwrDwnSave (demo [])).trace.drop 7 =
      [.setLines .sleep, .wait 50,
       .write [0xC0, 0x00, 0x06, 0x1A, 0x06, 0x44] [0xC0, 0x00, 0x06, 0x1A, 0x06, 0x44] true,
       .wait 50, .read (.bytes [0xC0, 0x00, 0x06, 0x1A, 0x06, 0x44]), .wait 50,
       .persist demoRecord] := by
  have hf : commandFrame .setConfigPwrDwnSave demoCfr =
      some [0xC0, 0x00, 0x06, 0x1A, 0x06, 0x44] := by
    simp only [commandFrame]; rw [show (0xC0#8 : Byte) = 0xC0 from rfl, test_packFrame.1]; rfl
  have hc : unpackFields (cfgFields ⟨0xC0#8, 0x00#8, 0x06#8, 0x1A#8, 0x06#8, 0x44#8⟩) = demoCfr :=
    test_unpackCfg
  simp only [runCommand, setMode_cfr, show (demo []).cfr = demoCfr from rfl, hf]
  simp [exchange, demo, demoEnv, Env.nextWrite, Env.afterWrite, Env.nextRead, WriteAnswer.isOk,
    WriteAnswer.sent, settleAfterWrite, readResponse, respond, respondConfig, record, demoRecord, hc]

/-- A step of `withFetchWord` on a word of the table runs that row's instruction first, after reset. -/
theorem test_step_after_reset :
    step (State.reset.withFetchWord 48 0xC000061A0644) =
      exec (.setConfigPwrDwnSave
        ⟨0x0006#16, 0b00#2, 0b011#3, 0b010#3, 6#8, 0#1, 1#1, 0#3, 1#1, 0#2⟩) State.reset := rfl

/-! ### Witnesses: concrete values that meet the hypotheses of the statements -/

theorem demo_good (r : List Request) : GoodState (demo r) where
  baud_present := by simp [demo, demoCfr]
  mode_asserted := by
    intro m h
    have : lastAsserted (demo r).trace = some .sleep := rfl
    rw [this] at h
    exact Option.some.inj h
  store_persisted := by
    intro x h
    have : lastPersisted (demo r).trace = some demoRecord := rfl
    rw [this] at h
    exact h
  last_parsed := by simp [demo]

theorem demo_writesPrepared (r : List Request) : WritesPrepared (demo r).trace := by
  intro b o st ok a h
  match b, h with
  | [], h => simp [demo] at h
  | [_], h => simp [demo] at h
  | [x, y], h =>
    simp only [demo, List.cons_append, List.nil_append, List.cons.injEq] at h
    obtain ⟨rfl, rfl, -⟩ := h
    exact .inl ⟨[], rfl⟩
  | x :: y :: z :: b, h =>
    have := congrArg (fun l => Event.write o st ok ∈ l.drop 3) h
    simp [demo] at this

/-- StepKeepsInvariant, StepKeepsWritesPrepared, StepTakesOneRequestAndTraceGrows: a good state with two
requests pending, and the step it makes. -/
theorem witness_step :
    let s := demo [.call (.setMode .normal), .call .idleWait]
    GoodState s ∧ WritesPrepared s.trace ∧
      step s = .next (deliver .ok (setMode .normal (demo [.call .idleWait]))) :=
  ⟨demo_good _, demo_writesPrepared _, rfl⟩

/-- StepExecutesTheDecodedInstruction, both clauses. -/
theorem witness_decoded :
    (demo [.word (.op 3 { text := textT })]).requests = .word (.op 3 { text := textT }) :: [] ∧
    decode (.op 3 { text := textT }) = .ok (.csum textT) ∧
    decodeTableWord 24 0xC4C4C4 = some .reset := by decide

/-- EncodeOfDecodeIsTheFrame: every encoded form, a block operation with ports it does not read set. -/
theorem witness_frames :
    decode (.op 3 { hdr := 0xC0, text := textT }) = .ok (.csum textT) ∧
    decode (.commandFrame [0xC2, 0, 0, 0, 0, 0]) =
      .ok (.setConfigPwrDwnNoSave ⟨0, 0, 0, 0, 0, 0, 0, 0, 0, 0⟩) ∧
    decode (.response [0xC3, 0x32, 0x45, 0x14]) =
      .ok (.rsp4VersionResponse 0xC3 0x32 0x45 0x14) ∧
    decode (.outMessage true true [0x00, 0x00, 0x00, 0x00]) = .ok (.msgFixed 0 0 true []) ∧
    decode (.inMessage true []) = .ok (.msgReceived true []) := by decide

/-- UnrecognizedCommandFails, by name and as a frame, just outside the five command bytes. -/
theorem witness_unrecognized :
    ((0xBF#8 ≠ 0xC0#8 ∧ 0xBF#8 ≠ 0xC1#8 ∧ 0xBF#8 ≠ 0xC2#8 ∧ 0xBF#8 ≠ 0xC3#8 ∧ 0xBF#8 ≠ 0xC4#8) ∧
      (demo [.call (.command 0xBF#8)]).requests = .call (.command 0xBF#8) :: []) ∧
    ((0xC5#8 ≠ 0xC0#8 ∧ 0xC5#8 ≠ 0xC1#8 ∧ 0xC5#8 ≠ 0xC2#8 ∧ 0xC5#8 ≠ 0xC3#8 ∧ 0xC5#8 ≠ 0xC4#8) ∧
      (demo [.word (.commandFrame [0xC5#8, 0xC5#8, 0xC5#8])]).requests =
        .word (.commandFrame [0xC5#8, 0xC5#8, 0xC5#8]) :: []) := by decide

/-- CommandFrameOfNoCommandFails: not triplicated, too short, too long, no byte, a set-config header
three times, and six bytes headed by a command of the other format. -/
theorem witness_noCommand :
    ∀ bs ∈ [[], [0xC1, 0xC1, 0xC3], [0xC0, 0xC0, 0xC0], [0xC2, 0xC2, 0xC2], [0xC0, 0, 0, 0, 0],
        [0xC0, 0, 0, 0, 0, 0, 0], [0xC1, 0, 0, 0, 0, (0 : Byte)]],
      (demo [.word (.commandFrame bs)]).requests = .word (.commandFrame bs) :: [] ∧
      bs ≠ [0xC1#8, 0xC1#8, 0xC1#8] ∧ bs ≠ [0xC3#8, 0xC3#8, 0xC3#8] ∧
      bs ≠ [0xC4#8, 0xC4#8, 0xC4#8] ∧
      (bs.length = 6 → bs.head? ≠ some 0xC0#8 ∧ bs.head? ≠ some 0xC2#8) := by decide

/-- CommandCallRunsTheCommand, each of the five bytes. -/
theorem witness_commandCall :
    ∀ k ∈ [0xC0#8, 0xC1#8, 0xC2#8, 0xC3#8, 0xC4#8],
      (demo [.call (.command k)]).requests = .call (.command k) :: [] ∧
      (k = 0xC0#8 ∨ k = 0xC1#8 ∨ k = 0xC2#8 ∨ k = 0xC3#8 ∨ k = 0xC4#8) := by decide

/-- ResponseFrameOfOtherLengthFails, at the lengths around 4 and 6 and at none. -/
theorem witness_responseLength :
    ∀ bs ∈ [[], [1, 2, 3], [1, 2, 3, 4, 5], [1, 2, 3, 4, 5, 6, (7 : Byte)]],
      (demo [.word (.response bs)]).requests = .word (.response bs) :: [] ∧
      bs.length ≠ 6 ∧ bs.length ≠ 4 := by decide

/-- PackCfgBuildsTheFrame and UnpackOfPackRestoresEveryRegister: three symbols; and each of the three
fields `NULL`, which SetConfigValidationBeforeAnyIO asks for as well. -/
theorem witness_pack :
    ((demo []).cfr.parity = some .p8N1 ∧ (demo []).cfr.baud = some .b9600 ∧
      (demo []).cfr.drate = some .d2k4) ∧
    (demo [] (cfr := { demoCfr with parity := none })).cfr.parity = none ∧
    (demo [] (cfr := { demoCfr with baud := none })).cfr.baud = none ∧
    (demo [] (cfr := { demoCfr with drate := none })).cfr.drate = none :=
  ⟨⟨rfl, rfl, rfl⟩, rfl, rfl, rfl⟩

/-- PackCfgScenarioOne. -/
theorem witness_scenarioOne :
    (demo []).cfr = ⟨0x0006#16, some .p8N1, some .b9600, some .d2k4, 6#8, 0#1, 1#1, 0#3, 1#1, 0#2⟩ :=
  rfl

/-- PackOfUnpackRestoresTheBytes, first clause: byte 3 `1A` holds three present codes. -/
theorem witness_codesPresent :
    AllCodesPresent ⟨0xC0, 0x00, 0x06, 0x1A, 0x06, 0x44⟩ ∧
    exec (.unpackCfg ⟨0xC0, 0x00, 0x06, 0x1A, 0x06, 0x44⟩) (demo []) =
      .next (unpackCfg ⟨0xC0, 0x00, 0x06, 0x1A, 0x06, 0x44⟩ (demo [])) :=
  ⟨⟨⟨.p8N1, by simp⟩, ⟨.b9600, by simp⟩, ⟨.d2k4, by simp⟩⟩, rfl⟩

/-- PackOfUnpackRestoresTheBytes, second clause: whichever parity code is absent, a byte 3 that holds
it. -/
theorem witness_codeAbsent :
    ∃ r : Frame6, ¬ AllCodesPresent r ∧
      exec (.unpackCfg r) (demo []) = .next (unpackCfg r (demo [])) := by
  obtain ⟨c, hc⟩ := exists_parityInv_eq_none
  refine ⟨⟨0xC0, 0, 6, byte3 c 3 2, 6, 0x44⟩, ?_, rfl⟩
  rintro ⟨⟨p, hp⟩, -, -⟩
  refine parityInv_eq_none.mp hc p (BitVec.eq_of_toNat_eq ?_)
  rw [hp, byte3_toNat]
  simp; omega

/-- ZeroSumAgreesWithRecomputation and CorruptedTrailingByteIsIntegrityFailure: X11 and a last byte
that is not the checksum (RX4). -/
theorem witness_csum :
    exec (.csum textT) (demo []) =
      .next { demo [] with out := { outcome := some .ok, cs := some 0x50#8 } } ∧
    (0x51#8 : Byte) ≠ 0x50#8 := by
  refine ⟨?_, by decide⟩
  simp only [exec, execCsum]
  rw [show checksum textT = 0x50#8 from by decide]
  rfl

/-- ChecksumIgnoresByteOrder. -/
theorem witness_perm : ([0x7B, 0x7D, 0x08] : Bytes).Perm [0x08, 0x7D, 0x7B] := by decide

/-- TxframeReadsOnlyTmode: two states that differ in the channel register and agree in `TMODE`. -/
theorem witness_tmode :
    (demo []).cfr.tmode = (demo [] (cfr := { demoCfr with chan := 40 })).cfr.tmode ∧
    exec (.txframe true true 3 4 textT) (demo []) =
      .next (txframe true true 3 4 textT (demo [])) ∧
    exec (.txframe true true 3 4 textT) (demo [] (cfr := { demoCfr with chan := 40 })) =
      .next (txframe true true 3 4 textT (demo [] (cfr := { demoCfr with chan := 40 }))) :=
  ⟨rfl, rfl, rfl⟩

/-- LoopbackHandsTheTextToParse. -/
theorem witness_loopback :
    (demo []).cfr.tmode = 0#1 ∧
    exec (.txframe true true 0 0 textT) (demo []) = .next (txframe true true 0 0 textT (demo [])) ∧
    (txframe true true 0 0 textT (demo [])).out.msg = some (textT ++ [0x50]) :=
  ⟨rfl, rfl, by decide⟩

/-- SendWritesTheFrameAfterQuiescence: a pending send, with the write accepted and with it failing. -/
theorem witness_send :
    (demo [.call (.send ⟨0⟩ true 3 4)]).requests = .call (.send ⟨0⟩ true 3 4) :: [] ∧
    (demo [.call (.send ⟨0⟩ true 3 4)]).env.nextWrite = .ok ∧
    (demo [.call (.send ⟨0⟩ true 3 4)] (demoEnv (.error 2) .nothing)).env.nextWrite = .error 2 :=
  ⟨rfl, rfl, rfl⟩

/-- SendScenarioTwo: a pending send of the payload in transparent mode, the write accepted. -/
theorem witness_scenarioTwo :
    ∃ p, Config.isMap p = true ∧ Config.serialize p = some textT ∧
      (demo [.call (.send p true 0 0)]).requests = .call (.send p true 0 0) :: [] ∧
      (demo [.call (.send p true 0 0)]).cfr.tmode = 0#1 ∧
      (demo [.call (.send p true 0 0)]).env.nextWrite = .ok := by
  obtain ⟨p, hm, hs⟩ := Config.exists_scenario_payload
  exact ⟨p, hm, hs, rfl, rfl, rfl⟩

/-- ReceiveDeframesOneRead: a pending receive, and the three answers of the read (P2 steps 2 and 4). -/
theorem witness_receive :
    ∀ a ∈ [ReadAnswer.nothing, .bytes [0x7B, 0x7D, 0x08], .error],
      (demo [.call (.receive true)] (demoEnv .ok a)).requests = .call (.receive true) :: [] ∧
      (demo [.call (.receive true)] (demoEnv .ok a)).env.nextRead = a := by decide

/-- BlockOperationsWriteOnlyTheirOwnState and ModeGatesNoBlockOperation: an operation that writes no
register; and FailedBlockOperationWritesNoState: one that fails. -/
theorem witness_block :
    (isCommand (.csum textT) = false ∧ decodesConfig (.csum textT) = false ∧
      deframesMessage (.csum textT) = false ∧
      exec (.csum textT) (demo []) =
        .next (deliver { Out.ok with cs := some (checksum textT) } (demo []))) ∧
    (isCommand .reservedOp = false ∧
      exec .reservedOp (demo []) = .next (raise .protocol (demo [])) ∧
      (raise .protocol (demo [])).out.outcome = some .fail) :=
  ⟨⟨rfl, rfl, rfl, rfl⟩, rfl, rfl, rfl⟩

/-- GetConfigStoresAndPersists, SetConfigSendsPackedFrameAndStoresResponse,
ResetCommandSendsAndReadsNothing: a transport that accepts the write and answers six bytes, and a record
that packs with either header. -/
theorem witness_sixBytes :
    (demo []).env.nextWrite = .ok ∧
    (demo []).env.afterWrite.nextRead = .bytes [0xC0, 0x00, 0x06, 0x1A, 0x06, 0x44] ∧
    packFrame 0xC0#8 (demo []).cfr = some ⟨0xC0, 0x00, 0x06, 0x1A, 0x06, 0x44⟩ ∧
    packFrame 0xC2#8 (demo []).cfr = some ⟨0xC2, 0x00, 0x06, 0x1A, 0x06, 0x44⟩ := by
  refine ⟨rfl, rfl, test_packFrame.1, ?_⟩
  simp [packFrame, packFields, cfgFrame, demo, demoCfr]; decide

/-- SetConfigFrameIsItsOwnRow, both headers (K1, K2). -/
theorem witness_ownRow :
    packFrame 0xC0#8 demoCfr = some ⟨0xC0, 0x00, 0x06, 0x1A, 0x06, 0x44⟩ ∧
    packFrame 0xC2#8 demoCfr = some ⟨0xC2, 0x00, 0x06, 0x1A, 0x06, 0x44⟩ :=
  witness_sixBytes.2.2

/-- GetVersionSurfacesTheVersion (P4 step 2). -/
theorem witness_fourBytes :
    (demo [] (demoEnv .ok (.bytes [0xC3, 0x32, 0x45, 0x14]))).env.nextWrite = .ok ∧
    (demo [] (demoEnv .ok (.bytes [0xC3, 0x32, 0x45, 0x14]))).env.afterWrite.nextRead =
      .bytes [0xC3, 0x32, 0x45, 0x14] := ⟨rfl, rfl⟩

/-- WrongResponseLengthIsProtocolFailure: nothing read, and five bytes (P1b), over a record that
packs. -/
theorem witness_wrongLength :
    (demo [] (demoEnv .ok .nothing)).env.nextWrite = .ok ∧
    (demo [] (demoEnv .ok .nothing)).env.afterWrite.nextRead = .nothing ∧
    (demo [] (demoEnv .ok (.bytes [0xC0, 0, 6, 0x1A, 0x1F]))).env.afterWrite.nextRead =
      .bytes [0xC0, 0, 6, 0x1A, 0x1F] ∧
    ([0xC0, 0, 6, 0x1A, 0x1F] : Bytes).length ≠ 4 ∧
    ([0xC0, 0, 6, 0x1A, 0x1F] : Bytes).length ≠ 6 ∧
    (demo [] (demoEnv .ok .nothing)).cfr.parity ≠ none ∧
    (demo [] (demoEnv .ok .nothing)).cfr.baud ≠ none ∧
    (demo [] (demoEnv .ok .nothing)).cfr.drate ≠ none := by decide

/-- TransportErrorEndsTheCommand: a write error (P1c) and a read error, for a set-config command over a
record that packs, and for `getConfig` over one that does not. -/
theorem witness_transportError :
    (demo [] (cfr := { demoCfr with parity := none })).cfr.parity = none ∧
    (demo []).cfr.parity ≠ none ∧ (demo []).cfr.baud ≠ none ∧ (demo []).cfr.drate ≠ none ∧
    (demo [] (demoEnv (.error 0) .nothing)).env.nextWrite = .error 0 ∧
    (demo [] (demoEnv .ok .error)).env.nextWrite = .ok ∧
    (demo [] (demoEnv .ok .error)).env.afterWrite.nextRead = .error ∧
    Instr.getConfig ≠ .reset ∧
    ∀ f, ¬ (Instr.getConfig = .setConfigPwrDwnSave f ∨ Instr.getConfig = .setConfigPwrDwnNoSave f) := by
  refine ⟨?_, ?_, ?_, ?_, ?_, ?_, ?_, ?_, by simp⟩ <;> decide

/-- CommandsLeaveModeSleep, CommandFrameAndFailureKeepCfr, CommandsBeginWithSleepAndWait: a command that
ends with `OK`, and one that fails. -/
theorem witness_command :
    isCommand .reset = true ∧
    (∃ t, exec .reset (demo []) = .next t ∧ t.out.outcome = some .ok) ∧
    (∃ t, exec .getConfig (demo [] (demoEnv (.error 0) .nothing)) = .next t ∧
      t.out.outcome ≠ some .ok) :=
  ⟨rfl, ⟨_, rfl, rfl⟩, ⟨_, rfl, by simp [runCommand, commandFrame, exchange, demo, demoEnv,
    Env.nextWrite, WriteAnswer.isOk, Out.fail]⟩⟩

/-- SetModeAssertsAndSettles: the mode asked for is the current one, and it is asserted all the same. -/
theorem witness_setMode :
    (demo [.call (.setMode .sleep)]).requests = .call (.setMode .sleep) :: [] ∧
    (demo [.call (.setMode .sleep)]).mode = .sleep := ⟨rfl, rfl⟩

/-- IdleWaitIsBoundedAndSilent: idle after one busy poll, and ten busy polls (R164). -/
theorem witness_idleWait :
    (demo [.call .idleWait]).requests = .call .idleWait :: [] ∧
    (idleWait (demo [] { demoEnv .ok .nothing with idles := [false, true] })).trace.drop 7 =
      [.poll false, .wait 10, .poll true] ∧
    ((idleWait (demo [] { demoEnv .ok .nothing with idles := List.replicate 11 false })).trace.drop
      7).length = 20 := by decide

/-- StartClampsThenSaves and StartNeverFailsValidation: a pending start over a record with a `NULL`. -/
theorem witness_start :
    (demo [.call (.start 6 255 1)] (cfr := { demoCfr with parity := none })).requests =
      .call (.start 6 255 1) :: [] := rfl

/-- StartScenarioThree: the band 410 to 441 has a tag; a transport that fails the write, and one that
accepts it and answers the frame of P1 step 5b, which is the one the clamped record packs to. -/
theorem witness_scenarioThree :
    ∃ (tag : String) (b : BandLimits), Config.band tag = some b ∧ b.min = 410 ∧ b.max = 441 ∧
      (let s (env : Env) : State := { demo [.call (.start 6 40#8 0)] env with model := tag }
       let accepted := s (demoEnv .ok (.bytes [0xC0, 0x00, 0x06, 0x1A, 0x1F, 0x44]))
       (s (demoEnv (.error 0) .nothing)).env.nextWrite = .error 0 ∧
       accepted.requests = .call (.start 6 40#8 0) :: [] ∧ accepted.model = tag ∧
       accepted.env.nextWrite = .ok ∧
       accepted.env.afterWrite.nextRead = .bytes [0xC0, 0x00, 0x06, 0x1A, 0x1F, 0x44]) ∧
      packFrame 0xC0 { demoCfr with chan := 31 } = some ⟨0xC0, 0x00, 0x06, 0x1A, 0x1F, 0x44⟩ := by
  obtain ⟨t, b, h, h1, h2⟩ := Config.exists_band_410_441
  refine ⟨t, b, h, h1, h2, ⟨rfl, rfl, rfl, rfl, rfl⟩, ?_⟩
  simp [packFrame, packFields, cfgFrame, demoCfr]; decide

/-- SetTransmissionModeSavesOnlyAChange: the current mode and the other. -/
theorem witness_setTransmissionMode :
    (demo [.call (.setTransmissionMode 0)]).requests = .call (.setTransmissionMode 0) :: [] ∧
    (0 : BitVec 1) = (demo [.call (.setTransmissionMode 0)]).cfr.tmode ∧
    (demo [.call (.setTransmissionMode 1)]).requests = .call (.setTransmissionMode 1) :: [] ∧
    (1 : BitVec 1) ≠ (demo [.call (.setTransmissionMode 1)]).cfr.tmode := by decide

end Sys2Proof.Tests
end

section
/-! PROOFS. The scope's statements (00_scope.md): no failure stops the machine, a failed operation of the
block leaves the state as it was, and the source's scenario 2. -/

namespace Sys2Proof.Machine

/-! ### What an instruction and a host procedure answer -/

/-- RXDEFRAME delivers `MESSAGE` or `NO_MESSAGE`, never `FAIL` (R136, R137, R190). -/
theorem rxdeframe_outcome_ne_fail (useCs : Bool) (rxb : Option Bytes) (s : State) :
    (rxdeframe useCs rxb s).out.outcome ≠ some .fail := by
  rcases rxdeframe_cases useCs rxb s with ⟨-, h⟩ | ⟨bs, -, -, h⟩ <;> rw [h]
  · simp [Out.noMessage]
  · rcases deframe_cases useCs bs s with ⟨-, -, h⟩ | ⟨-, ⟨-, h⟩ | ⟨p, -, h⟩⟩ <;> rw [h]
    · simp [Out.noMessage]
    · simp [Out.noMessage]
    · simp [Out.message]

/-- An instruction that is no wire command answers a next state, and if that one holds `FAIL` the
instruction did nothing but raise it (R17, R195). -/
theorem exec_block_cases {i : Instr} (h : isCommand i = false) (s : State) :
    ∃ t, exec i s = .next t ∧ (t.out.outcome ≠ some .fail ∨ ∃ c, t = raise c s) := by
  cases i with
  | packCfg hdr =>
    refine ⟨_, rfl, ?_⟩
    rcases packCfg_cases hdr s with ⟨f, -, h⟩ | ⟨-, h⟩ <;> rw [h]
    · exact .inl (by simp [Out.ok])
    · exact .inr ⟨_, rfl⟩
  | txframe isMap useCs a ch text =>
    refine ⟨_, rfl, ?_⟩
    rcases txframe_cases isMap useCs a ch text s with ⟨-, h⟩ | ⟨-, h⟩ <;> rw [h]
    · exact .inl (by simp [Out.ok])
    · exact .inr ⟨_, rfl⟩
  | rxdeframe useCs rxb => exact ⟨_, rfl, .inl (rxdeframe_outcome_ne_fail useCs rxb s)⟩
  | msgReceived useCs rxb => exact ⟨_, rfl, .inl (rxdeframe_outcome_ne_fail useCs (some rxb) s)⟩
  | reservedOp => exact ⟨_, rfl, .inr ⟨_, rfl⟩⟩
  | unpackCfg r => exact ⟨_, rfl, .inl (by simp [Out.ok])⟩
  | rsp6ConfigResponse header fields => exact ⟨_, rfl, .inl (by simp [Out.ok])⟩
  | unpackVer r => exact ⟨_, rfl, .inl (by simp [unpackVer, Out.ok])⟩
  | rsp4VersionResponse header q v e => exact ⟨_, rfl, .inl (by simp [unpackVer, Out.ok])⟩
  | msgTransparent useCs text => exact ⟨_, rfl, .inl (by simp [Out.ok])⟩
  | msgFixed a ch useCs text => exact ⟨_, rfl, .inl (by simp [Out.ok])⟩
  | csum text => exact ⟨_, rfl, .inl (by simp [Out.ok])⟩
  | csverify text => exact ⟨_, rfl, .inl (by simp [Out.ok])⟩
  | _ => cases h

/-- No instruction faults or is refused (R17). -/
theorem exec_eq_next (i : Instr) (s : State) : ∃ t, exec i s = .next t := by
  cases h : isCommand i with
  | true =>
    obtain ⟨c, hc⟩ := exec_of_isCommand h s
    exact ⟨_, hc⟩
  | false =>
    obtain ⟨t, ht, -⟩ := exec_block_cases h s
    exact ⟨t, ht⟩

/-- A host procedure answers a next state, or is the load call and is refused (R17, R180, U19). -/
theorem runHostCall_cases (h : HostCall) (s : State) :
    (∃ t, runHostCall h s = .next t) ∨
      (h = .load ∧ runHostCall h s = .refused .loadCallUnsaid) := by
  cases h with
  | load => exact .inr ⟨rfl, rfl⟩
  | _ => exact .inl ⟨_, rfl⟩

/-- Settles O5: by the three ways a step goes, only the load call among the host procedures is not
answered by a next state. -/
theorem stepStopsOnlyAtTheLoadCall : Obligations.StepStopsOnlyAtTheLoadCall := by
  intro s
  rcases step_cases s with ⟨-, hs⟩ | ⟨e, rest, -, ⟨i, -, hs⟩ | ⟨r, -, hs⟩⟩ | ⟨h, rest, hr, hs⟩ <;>
    rw [hs]
  · exact .inl ⟨_, rfl⟩
  · exact .inl (exec_eq_next i _)
  · exact .inl ⟨_, rfl⟩
  · rcases runHostCall_cases h (takeRequest rest s) with hn | ⟨rfl, hl⟩
    · exact .inl hn
    · exact .inr ⟨rest, hr, hl⟩

/-- Settles O39: a block operation that ends with `FAIL` only raised it, and raising writes the output
ports alone. -/
theorem failedBlockOperationWritesNoState : Obligations.FailedBlockOperationWritesNoState := by
  intro i s t hi ht hfail
  obtain ⟨u, hu, hcases⟩ := exec_block_cases hi s
  obtain rfl : u = t := by simpa [hu] using ht
  rcases hcases with hok | ⟨c, rfl⟩
  · exact absurd hfail hok
  · rfl

/-! ### The source's scenario 2 -/

/-- A step whose first request is a host procedure runs it with the request taken (R40). -/
theorem step_of_call {s : State} {h : HostCall} {rest : List Request}
    (hr : s.requests = .call h :: rest) : step s = runHostCall h (takeRequest rest s) := by
  simp [step, hr, runRequest]

/-- Send of a map that serializes waits 300 ms and offers its frame to the transport, and the answer of
the write decides the outcome (R140). -/
theorem send_of_serialize {p : Payload} {text : Bytes} (hm : Config.isMap p = true)
    (ht : Config.serialize p = some text) (useCs : Bool) (a : BitVec 16) (ch : Byte) (s : State) :
    send p useCs a ch s =
      deliver (if WriteAnswer.isOk s.env.nextWrite then .ok else .fail .transport)
        (transportWrite (messageFrame (fixedMode s.cfr) useCs a ch text) (wait 300 s)) := by
  cases h : WriteAnswer.isOk s.env.nextWrite <;> simp [send, hm, ht, h, raise]

/-- The checksum of the scenario's text (95_test_vectors.md S2, X11). -/
theorem checksum_scenarioText : checksum scenarioText = 0x50#8 := by decide

/-- In transparent mode with checksum, the frame of the scenario's text is that text and `50` (T2). -/
theorem messageFrame_scenarioText (a : BitVec 16) (ch : Byte) :
    messageFrame false true a ch scenarioText = scenarioText ++ [0x50#8] := by
  simp [messageFrame, messagePrefix, messageSuffix, checksum_scenarioText]

/-- The bytes of scenario 2 sum to zero modulo 256 (R121, R122). -/
theorem sum_scenarioFrame : ((scenarioText ++ [0x50#8]).map BitVec.toNat).sum % 256 = 0 := by
  rw [← sumBytes_eq_sum, ← zeroSum_iff]
  exact (zeroSum_append_singleton _ _).mpr checksum_scenarioText.symm

/-- Settles O60: the payload is the one whose text the parameters pin, and its Send is computed by
`send_of_serialize`. -/
theorem sendScenarioTwo : Obligations.SendScenarioTwo := by
  obtain ⟨p, hm, ht⟩ := Config.exists_scenario_payload
  refine ⟨p, hm, fun a ch rest s hr htm hw => ⟨scenarioText ++ [0x50#8], rfl, sum_scenarioFrame, ?_⟩⟩
  have hmode : fixedMode s.cfr = false := by simp [fixedMode, htm]
  rw [step_of_call hr]
  simp only [runHostCall, send_of_serialize hm ht, takeRequest_cfr, takeRequest_env, hmode, hw,
    messageFrame_scenarioText]
  refine congrArg _ (State.eq_of_fields _ _ rfl rfl rfl rfl rfl rfl rfl rfl ?_ rfl rfl)
  simp [hw, WriteAnswer.isOk, WriteAnswer.sent]

end Sys2Proof.Machine
end

section
/-! PROOFS. The statements of the state (10_state.md): what an operation of the machine is made of, said
once (`Updates`), and from it the invariant, the request queue and the trace; the frame of a command and
of a block operation; reset, the direct write and the absent codes. -/

namespace Sys2Proof.Machine

/-! ### The elementary updates -/

/-- The updates every operation of the machine is made of. -/
inductive Update : State → State → Prop
  /-- The output ports are written (R38). -/
  | deliver (o : Out) (s : State) : Update s (deliver o s)
  /-- `LAST` takes a payload that `Parse` returned (R36). -/
  | lastParsed {p : Payload} {text : Bytes} (s : State) (h : Config.parse text = some p) :
    Update s { s with last := some p }
  /-- `LAST` is kept or cleared after a failed receive (R138). -/
  | lastFailed (s : State) : Update s { s with last := lastAfterFailure s.last }
  /-- The environment answers (R39, R43). -/
  | env (e : Env) (s : State) : Update s { s with env := e }
  /-- A primitive is used that neither asserts a mode nor persists (R18). -/
  | note (e : Event) (s : State) (hm : Event.assertedMode e = none)
    (hp : Event.persistedRecord e = none) : Update s (emit e s)
  /-- The mode lines are driven and `MODE` is written with them (R151). -/
  | assertMode (m : Mode) (s : State) : Update s { emit (.setLines m) s with mode := m }
  /-- The record is persisted (R68). -/
  | persist (s : State) : Update s (persist s)
  /-- Fields of the record are written, the baudrate with no new `NULL` (R23, R31). -/
  | record (c : Cfr) (port : String) (freq : Nat) (s : State)
    (h : c.baud = none → s.cfr.baud = none) :
    Update s { s with cfr := c, port := port, freq := freq }

/-- Any number of elementary updates, in order. -/
abbrev Updates : State → State → Prop := Relation.ReflTransGen Update

/-! ### What an update keeps -/

theorem lastAsserted_append_singleton (t : List Event) (e : Event) :
    lastAsserted (t ++ [e]) = (Event.assertedMode e).or (lastAsserted t) := by
  cases h : Event.assertedMode e <;> simp [lastAsserted, h]

theorem lastPersisted_append_singleton (t : List Event) (e : Event) :
    lastPersisted (t ++ [e]) = (Event.persistedRecord e).or (lastPersisted t) := by
  cases h : Event.persistedRecord e <;> simp [lastPersisted, h]

/-- The invariant survives each elementary update: a field and the trace it is tied to change together
or not at all. -/
theorem Update.goodState {s t : State} (hu : Update s t) (hg : GoodState s) : GoodState t := by
  obtain ⟨hb, hm, hst, hl⟩ := hg
  cases hu with
  | deliver o => exact ⟨hb, hm, hst, hl⟩
  | lastParsed _ hp => exact ⟨hb, hm, hst, fun q hq => ⟨_, hp.trans hq⟩⟩
  | lastFailed =>
    refine ⟨hb, hm, hst, fun q hq => ?_⟩
    rcases lastAfterFailure_cases s.last with h | h
    · exact hl q (h.symm.trans hq)
    · cases h.symm.trans hq
  | env e => exact ⟨hb, hm, hst, hl⟩
  | note e _ hem hep =>
    refine ⟨hb, fun m h => hm m ?_, fun r h => hst r ?_, hl⟩
    · simpa [lastAsserted_append_singleton, hem] using h
    · simpa [lastPersisted_append_singleton, hep] using h
  | assertMode m =>
    refine ⟨hb, fun m' h => ?_, fun r h => hst r ?_, hl⟩
    · simpa [lastAsserted_append_singleton, Event.assertedMode] using h
    · simpa [lastPersisted_append_singleton, Event.persistedRecord] using h
  | persist =>
    refine ⟨hb, fun m h => hm m ?_, fun r h => ?_, hl⟩
    · simpa [lastAsserted_append_singleton, Event.assertedMode] using h
    · simpa [lastPersisted_append_singleton, Event.persistedRecord] using h
  | record c port freq _ hc => exact ⟨fun h => hb (hc h), hm, hst, hl⟩

theorem Updates.goodState {s t : State} (hu : Updates s t) (hg : GoodState s) : GoodState t := by
  induction hu with
  | refl => exact hg
  | tail _ h ih => exact h.goodState ih

/-- No update touches the requests, and each one that touches the trace appends to it (R40, R63). -/
theorem Update.requests_trace {s t : State} (hu : Update s t) :
    t.requests = s.requests ∧ s.trace <+: t.trace := by
  cases hu with
  | note e => exact ⟨rfl, List.prefix_append _ _⟩
  | assertMode m => exact ⟨rfl, List.prefix_append _ _⟩
  | persist => exact ⟨rfl, List.prefix_append _ _⟩
  | _ => exact ⟨rfl, List.prefix_rfl⟩

theorem Updates.requests_trace {s t : State} (hu : Updates s t) :
    t.requests = s.requests ∧ s.trace <+: t.trace := by
  induction hu with
  | refl => exact ⟨rfl, List.prefix_rfl⟩
  | tail _ h ih => exact ⟨h.requests_trace.1.trans ih.1, ih.2.trans h.requests_trace.2⟩

/-! ### The shared operations are updates -/

theorem updates_deliver (o : Out) (s : State) : Updates s (deliver o s) := .single (.deliver o s)

theorem updates_raise (c : Cause) (s : State) : Updates s (raise c s) := updates_deliver _ s

theorem updates_raiseNoMessage (c : Cause) (s : State) : Updates s (raiseNoMessage c s) :=
  .tail (.single (.lastFailed s)) (.deliver _ _)

theorem updates_wait (ms : Nat) (s : State) : Updates s (wait ms s) := .single (.note _ s rfl rfl)

theorem updates_transportRead (s : State) : Updates s (transportRead s) :=
  .tail (.single (.env s.env.afterRead s)) (.note _ _ rfl rfl)

theorem updates_transportWrite (b : Bytes) (s : State) : Updates s (transportWrite b s) :=
  .tail (.single (.env s.env.afterWrite s)) (.note _ _ rfl rfl)

theorem updates_poll (s : State) : Updates s (poll s) :=
  .tail (.single (.env s.env.afterPoll s)) (.note _ _ rfl rfl)

theorem updates_setMode (m : Mode) (s : State) : Updates s (setMode m s) :=
  .tail (.single (.assertMode m s)) (.note _ _ rfl rfl)

/-- A write of CFR alone. -/
theorem updates_cfr (c : Cfr) (s : State) (h : c.baud = none → s.cfr.baud = none) :
    Updates s { s with cfr := c } :=
  .single (.record c s.port s.freq s h)

/-- UNPACK_CFG writes no `NULL` to `CFR.BAUD` (R23). -/
theorem updates_unpackCfg (r : Frame6) (s : State) : Updates s (unpackCfg r s) :=
  .tail (updates_cfr (unpackFields (cfgFields r)) s fun h => absurd h (baudInv_ne_none _))
    (.deliver _ _)

theorem updates_settleAfterWrite (ok : Bool) (s : State) : Updates s (settleAfterWrite ok s) := by
  obtain h | ⟨h, -⟩ := settleAfterWrite_eq ok s <;> rw [h]
  exact updates_wait 50 s

theorem updates_rxdeframe (useCs : Bool) (rxb : Option Bytes) (s : State) :
    Updates s (rxdeframe useCs rxb s) := by
  rcases rxdeframe_cases useCs rxb s with ⟨-, h⟩ | ⟨bs, -, -, h⟩ <;> rw [h]
  · exact updates_raiseNoMessage _ s
  · rcases deframe_cases useCs bs s with ⟨-, -, h⟩ | ⟨-, ⟨-, h⟩ | ⟨p, hp, h⟩⟩ <;> rw [h]
    · exact updates_raiseNoMessage _ s
    · exact updates_raiseNoMessage _ s
    · exact .tail (.single (.lastParsed s hp)) (.deliver _ _)

/-! ### A register-level command: its steps and its end -/

/-- What the steps of a command before its end leave alone (R32, R36, R161). -/
structure Underway (s u : State) : Prop where
  updates : Updates s u
  cfr : u.cfr = s.cfr
  model : u.model = s.model
  port : u.port = s.port
  freq : u.freq = s.freq
  last : u.last = s.last
  store : u.store = s.store
  requests : u.requests = s.requests
  idles : u.env.idles = s.env.idles

namespace Underway

theorem trans {s u v : State} (h : Underway s u) (h' : Underway u v) : Underway s v where
  updates := h.updates.trans h'.updates
  cfr := h'.cfr.trans h.cfr
  model := h'.model.trans h.model
  port := h'.port.trans h.port
  freq := h'.freq.trans h.freq
  last := h'.last.trans h.last
  store := h'.store.trans h.store
  requests := h'.requests.trans h.requests
  idles := h'.idles.trans h.idles

theorem setMode (m : Mode) (s : State) : Underway s (setMode m s) :=
  ⟨updates_setMode m s, rfl, rfl, rfl, rfl, rfl, rfl, rfl, rfl⟩

theorem wait (ms : Nat) (s : State) : Underway s (wait ms s) :=
  ⟨updates_wait ms s, rfl, rfl, rfl, rfl, rfl, rfl, rfl, rfl⟩

theorem transportWrite (b : Bytes) (s : State) : Underway s (transportWrite b s) :=
  ⟨updates_transportWrite b s, rfl, rfl, rfl, rfl, rfl, rfl, rfl, by
    rw [transportWrite_env, Env.afterWrite]; split <;> rfl⟩

theorem transportRead (s : State) : Underway s (transportRead s) :=
  ⟨updates_transportRead s, rfl, rfl, rfl, rfl, rfl, rfl, rfl, by
    rw [transportRead_env, Env.afterRead]; split <;> rfl⟩

theorem settleAfterWrite (ok : Bool) (s : State) : Underway s (settleAfterWrite ok s) where
  updates := updates_settleAfterWrite ok s
  cfr := settleAfterWrite_cfr ok s
  model := settleAfterWrite_model ok s
  port := settleAfterWrite_port ok s
  freq := settleAfterWrite_freq ok s
  last := settleAfterWrite_last ok s
  store := settleAfterWrite_store ok s
  requests := settleAfterWrite_requests ok s
  idles := by rw [settleAfterWrite_env]

end Underway

/-- The ways a command ends in the state `u` that its steps have made. -/
inductive CommandEnd (u : State) : Command → State → Prop
  /-- A step failed (R161). -/
  | failed (c : Command) (k : Cause) : CommandEnd u c (raise k u)
  /-- `reset` reads no response (R160). -/
  | reset : CommandEnd u .reset (deliver .ok u)
  /-- `getVersion` decodes its four bytes (R156). -/
  | version (r : Frame4) : CommandEnd u .getVersion (unpackVer r u)
  /-- The other three decode their six bytes into CFR and persist the record (R157 to R159). -/
  | config {c : Command} (r : Frame6) (hv : c ≠ .getVersion) (hr : c ≠ .reset) :
    CommandEnd u c (persist (unpackCfg r u))

theorem respondConfig_commandEnd (c : Command) (hv : c ≠ .getVersion) (hr : c ≠ .reset)
    (resp : Bytes) (u : State) : CommandEnd u c (respondConfig resp u) := by
  rcases respondConfig_cases resp u with ⟨r, -, h⟩ | ⟨-, h⟩ <;> rw [h]
  · exact .config r hv hr
  · exact .failed c _

theorem respond_commandEnd (c : Command) (resp : Bytes) (u : State) :
    CommandEnd u c (respond c resp u) := by
  cases c with
  | reset => exact .reset
  | getVersion =>
    rw [respond]
    rcases respondVersion_cases resp u with ⟨r, -, h⟩ | ⟨-, h⟩ <;> rw [h]
    · exact .version r
    · exact .failed _ _
  | getConfig => exact respondConfig_commandEnd .getConfig nofun nofun resp u
  | setConfigPwrDwnSave => exact respondConfig_commandEnd .setConfigPwrDwnSave nofun nofun resp u
  | setConfigPwrDwnNoSave => exact respondConfig_commandEnd .setConfigPwrDwnNoSave nofun nofun resp u

theorem readResponse_commandEnd (c : Command) (s : State) :
    ∃ u, Underway s u ∧ CommandEnd u c (readResponse c s) := by
  refine ⟨wait 50 (transportRead s), (Underway.transportRead s).trans (.wait 50 _), ?_⟩
  rcases readResponse_cases c s with ⟨-, h⟩ | ⟨-, h⟩ <;> rw [h]
  · exact .failed c _
  · exact respond_commandEnd c _ _

theorem exchange_commandEnd (c : Command) (frame : Bytes) (s : State) :
    ∃ u, Underway s u ∧ CommandEnd u c (exchange c frame s) := by
  have written := Underway.transportWrite frame s
  rcases exchange_cases c frame s with ⟨-, h⟩ | ⟨-, rfl, h⟩ | ⟨-, -, h⟩ <;> rw [h]
  · exact ⟨_, written.trans (.settleAfterWrite false _), .failed c _⟩
  · exact ⟨_, written.trans (.wait 50 _), .reset⟩
  · obtain ⟨u, hu, hend⟩ := readResponse_commandEnd c (wait 50 (transportWrite frame s))
    exact ⟨u, (written.trans (.wait 50 _)).trans hu, hend⟩

/-- A command makes its steps, which keep CFR and the store, and then ends in one of the four ways. -/
theorem runCommand_commandEnd (c : Command) (s : State) :
    ∃ u, Underway s u ∧ CommandEnd u c (runCommand c s) := by
  have asleep := Underway.setMode .sleep s
  rcases runCommand_cases c s with ⟨-, h⟩ | ⟨frame, -, h⟩ <;> rw [h]
  · exact ⟨_, asleep, .failed c _⟩
  · obtain ⟨u, hu, hend⟩ := exchange_commandEnd c frame (setMode .sleep s)
    exact ⟨u, asleep.trans hu, hend⟩

namespace CommandEnd

variable {c : Command} {u t : State}

theorem updates (h : CommandEnd u c t) : Updates u t := by
  cases h with
  | failed _ k => exact updates_raise k u
  | reset => exact updates_deliver _ u
  | version r => exact updates_deliver _ u
  | config r => exact .tail (updates_unpackCfg r u) (.persist _)

/-- No end writes a host field, `LAST`, the requests or the environment (R32, R36, R106). -/
theorem frame (h : CommandEnd u c t) :
    t.model = u.model ∧ t.port = u.port ∧ t.freq = u.freq ∧ t.last = u.last ∧
      t.requests = u.requests ∧ t.env = u.env := by
  cases h <;> exact ⟨rfl, rfl, rfl, rfl, rfl, rfl⟩

/-- Only the end with `OK` of a command that stores its response writes CFR and the store (R156, R160,
R161, R196). -/
theorem keeps_cfr_store (h : CommandEnd u c t)
    (hk : t.out.outcome ≠ some .ok ∨ c = .getVersion ∨ c = .reset) :
    t.cfr = u.cfr ∧ t.store = u.store := by
  cases h with
  | failed => exact ⟨rfl, rfl⟩
  | reset => exact ⟨rfl, rfl⟩
  | version => exact ⟨rfl, rfl⟩
  | config r hv hr =>
    rcases hk with hk | rfl | rfl
    · exact absurd rfl hk
    · exact absurd rfl hv
    · exact absurd rfl hr

end CommandEnd

theorem updates_runCommand (c : Command) (s : State) : Updates s (runCommand c s) := by
  obtain ⟨u, hu, hend⟩ := runCommand_commandEnd c s
  exact hu.updates.trans hend.updates

/-! ### A block operation -/

/-- Everything an instruction that is no wire command can do: deliver a result, decode a configuration
response into CFR, or deframe a message. -/
theorem exec_block_effect {i : Instr} (h : isCommand i = false) (s : State) :
    (∃ o, exec i s = .next (deliver o s)) ∨
    (decodesConfig i = true ∧ ∃ r, exec i s = .next (unpackCfg r s)) ∨
    (deframesMessage i = true ∧ ∃ useCs rxb, exec i s = .next (rxdeframe useCs rxb s)) := by
  cases i with
  | unpackCfg r => exact .inr (.inl ⟨rfl, r, rfl⟩)
  | rsp6ConfigResponse header fields => exact .inr (.inl ⟨rfl, _, rfl⟩)
  | rxdeframe useCs rxb => exact .inr (.inr ⟨rfl, useCs, rxb, rfl⟩)
  | msgReceived useCs rxb => exact .inr (.inr ⟨rfl, useCs, some rxb, rfl⟩)
  | packCfg hdr =>
    rcases packCfg_cases hdr s with ⟨f, -, h⟩ | ⟨-, h⟩ <;> exact .inl ⟨_, congrArg _ h⟩
  | txframe isMap useCs a ch text =>
    rcases txframe_cases isMap useCs a ch text s with ⟨-, h⟩ | ⟨-, h⟩ <;>
      exact .inl ⟨_, congrArg _ h⟩
  | rsp4VersionResponse header q v e => exact .inl ⟨_, rfl⟩
  | unpackVer r => exact .inl ⟨_, rfl⟩
  | msgTransparent useCs text => exact .inl ⟨_, rfl⟩
  | msgFixed a ch useCs text => exact .inl ⟨_, rfl⟩
  | csum text => exact .inl ⟨_, rfl⟩
  | csverify text => exact .inl ⟨_, rfl⟩
  | reservedOp => exact .inl ⟨_, rfl⟩
  | _ => cases h

/-- RXDEFRAME writes `LAST` and the output ports alone (R41, R142). -/
theorem rxdeframe_eq_deliver (useCs : Bool) (rxb : Option Bytes) (s : State) :
    ∃ o l, rxdeframe useCs rxb s = deliver o { s with last := l } := by
  rcases rxdeframe_cases useCs rxb s with ⟨-, h⟩ | ⟨bs, -, -, h⟩ <;> rw [h]
  · exact ⟨_, _, rfl⟩
  · rcases deframe_cases useCs bs s with ⟨-, -, h⟩ | ⟨-, ⟨-, h⟩ | ⟨p, -, h⟩⟩ <;>
      exact ⟨_, _, h⟩

/-- Settles O38: by the three things a block operation can do. -/
theorem blockOperationsWriteOnlyTheirOwnState : Obligations.BlockOperationsWriteOnlyTheirOwnState := by
  intro i s t hi ht
  rcases exec_block_effect hi s with ⟨o, h⟩ | ⟨hd, r, h⟩ | ⟨hd, useCs, rxb, h⟩ <;>
    obtain rfl := Host.Outcome.next.inj (h.symm.trans ht)
  · exact ⟨rfl, rfl, rfl, rfl, rfl, rfl, rfl, rfl, fun _ => rfl, fun _ => rfl⟩
  · exact ⟨rfl, rfl, rfl, rfl, rfl, rfl, rfl, rfl, fun hn => by simp [hd] at hn, fun _ => rfl⟩
  · obtain ⟨o, l, hl⟩ := rxdeframe_eq_deliver useCs rxb s
    rw [hl]
    exact ⟨rfl, rfl, rfl, rfl, rfl, rfl, rfl, rfl, fun _ => rfl, fun hn => by simp [hd] at hn⟩

/-! ### The frame of a command -/

/-- The command a wire row runs, named for the two rows that store nothing (R86). -/
theorem exec_eq_runCommand {i : Instr} (h : isCommand i = true) (s : State) :
    ∃ c, exec i s = .next (runCommand c s) ∧ (i = .getVersion → c = .getVersion) ∧
      (i = .reset → c = .reset) := by
  by_cases hv : i = .getVersion
  · subst hv; exact ⟨_, rfl, fun _ => rfl, nofun⟩
  · by_cases hr : i = .reset
    · subst hr; exact ⟨_, rfl, nofun, fun _ => rfl⟩
    · obtain ⟨c, hc⟩ := exec_of_isCommand h s
      exact ⟨c, hc, fun h => absurd h hv, fun h => absurd h hr⟩

/-- Settles O50: the steps of a command keep everything the statement names, and its end does as
`CommandEnd.frame` and `CommandEnd.keeps_cfr_store` say. -/
theorem commandFrameAndFailureKeepCfr : Obligations.CommandFrameAndFailureKeepCfr := by
  intro i s t hi ht
  obtain ⟨c, hc, hver, hreset⟩ := exec_eq_runCommand hi s
  obtain rfl := Host.Outcome.next.inj (hc.symm.trans ht)
  obtain ⟨u, hu, hend⟩ := runCommand_commandEnd c s
  obtain ⟨hmodel, hport, hfreq, hlast, hrequests, henv⟩ := hend.frame
  refine ⟨hmodel.trans hu.model, hport.trans hu.port, hfreq.trans hu.freq, hlast.trans hu.last,
    hrequests.trans hu.requests, (congrArg Env.idles henv).trans hu.idles, fun hk => ?_⟩
  obtain ⟨hcfr, hstore⟩ := hend.keeps_cfr_store (hk.imp_right (Or.imp hver hreset))
  exact ⟨hcfr.trans hu.cfr, hstore.trans hu.store⟩

/-! ### Every step is a run of updates -/

theorem exec_updates {i : Instr} {s t : State} (h : exec i s = .next t) : Updates s t := by
  cases hi : isCommand i with
  | true =>
    obtain ⟨c, hc⟩ := exec_of_isCommand hi s
    obtain rfl := Host.Outcome.next.inj (hc.symm.trans h)
    exact updates_runCommand c s
  | false =>
    rcases exec_block_effect hi s with ⟨o, he⟩ | ⟨-, r, he⟩ | ⟨-, useCs, rxb, he⟩ <;>
      obtain rfl := Host.Outcome.next.inj (he.symm.trans h)
    · exact updates_deliver o s
    · exact updates_unpackCfg r s
    · exact updates_rxdeframe useCs rxb s

theorem updates_requestCommand (k : Byte) (s : State) : Updates s (requestCommand k s) := by
  unfold requestCommand
  split
  · exact updates_runCommand _ s
  · exact updates_raise _ s

theorem updates_send (p : Payload) (useCs : Bool) (a : BitVec 16) (ch : Byte) (s : State) :
    Updates s (send p useCs a ch s) := by
  rcases send_cases p useCs a ch s with h | ⟨text, -, -, h⟩ <;> rw [h]
  · exact updates_raise _ s
  · exact .tail ((updates_wait 300 s).trans (updates_transportWrite _ _)) (.deliver _ _)

theorem updates_receive (useCs : Bool) (s : State) : Updates s (receive useCs s) := by
  refine (updates_transportRead s).trans ?_
  unfold receive
  split
  · exact updates_raiseNoMessage _ _
  · exact updates_rxdeframe _ _ _
  · exact updates_rxdeframe _ _ _

/-- `start` leaves no `NULL` in the baudrate register (R175). -/
theorem updates_start (a : BitVec 16) (c : Byte) (m : BitVec 1) (s : State) :
    Updates s (start a c m s) :=
  .trans (.single (.record (startCfr a c m s) _ _ s nofun)) (updates_runCommand _ _)

theorem updates_setTransmissionMode (m : BitVec 1) (s : State) :
    Updates s (setTransmissionMode m s) := by
  unfold setTransmissionMode
  split
  · exact updates_deliver _ s
  · exact (updates_cfr { s.cfr with tmode := m } s id).trans (updates_runCommand _ _)

theorem updates_idlePolls (n : Nat) (s : State) : Updates s (idlePolls n s) := by
  induction n generalizing s with
  | zero => exact .refl
  | succ n ih =>
    rcases idlePolls_succ n s with ⟨-, h⟩ | ⟨-, h⟩ <;> rw [h]
    · exact updates_poll s
    · exact ((updates_poll s).trans (updates_wait 10 _)).trans (ih _)

/-- A direct write puts no `NULL` into the baudrate register (R22, R31). -/
theorem writeCfr_baud_none (w : CfrWrite) (c : Cfr) : (writeCfr w c).baud = none → c.baud = none := by
  cases w with
  | baud v => exact nofun
  | _ => exact id

theorem runHostCall_updates {h : HostCall} {s t : State} (ht : runHostCall h s = .next t) :
    Updates s t := by
  cases h with
  | load => cases ht
  | command k => exact Host.Outcome.next.inj ht ▸ updates_requestCommand k s
  | setMode m => exact Host.Outcome.next.inj ht ▸ .tail (updates_setMode m s) (.deliver _ _)
  | send p useCs a ch => exact Host.Outcome.next.inj ht ▸ updates_send p useCs a ch s
  | receive useCs => exact Host.Outcome.next.inj ht ▸ updates_receive useCs s
  | start a c m => exact Host.Outcome.next.inj ht ▸ updates_start a c m s
  | setTransmissionMode m => exact Host.Outcome.next.inj ht ▸ updates_setTransmissionMode m s
  | idleWait => exact Host.Outcome.next.inj ht ▸ .tail (updates_idlePolls 10 s) (.deliver _ _)
  | writeCfr w =>
    exact Host.Outcome.next.inj ht ▸
      .tail (updates_cfr _ s (writeCfr_baud_none w s.cfr)) (.deliver _ _)

/-- A step takes the first request and then makes elementary updates alone (R40). -/
theorem step_updates {s t : State} (ht : step s = .next t) :
    Updates (takeRequest s.requests.tail s) t := by
  rcases step_cases s with ⟨hr, hs⟩ | ⟨e, rest, hr, ⟨i, -, hs⟩ | ⟨r, -, hs⟩⟩ | ⟨h, rest, hr, hs⟩ <;>
    rw [hs] at ht <;> rw [hr, List.tail]
  · obtain rfl := Host.Outcome.next.inj ht
    rw [← hr]
    exact .refl
  · exact exec_updates ht
  · exact Host.Outcome.next.inj ht ▸ updates_raise _ _
  · exact runHostCall_updates ht

/-- Settles O3: taking a request touches no field of the invariant, and every elementary update keeps
it. -/
theorem stepKeepsInvariant : Obligations.StepKeepsInvariant := by
  intro s t ⟨hb, hm, hst, hl⟩ ht
  exact (step_updates ht).goodState ⟨hb, hm, hst, hl⟩

/-- Settles O6: after the first request is taken, the updates leave the others and only append to the
trace. -/
theorem stepTakesOneRequestAndTraceGrows : Obligations.StepTakesOneRequestAndTraceGrows :=
  fun _ _ ht => (step_updates ht).requests_trace

/-- Settles O7: a word that decodes is executed with the request taken, and taking the word that
`withFetchWord` placed gives the state back. -/
theorem stepExecutesTheDecodedInstruction : Obligations.StepExecutesTheDecodedInstruction := by
  have decoded {s : State} {e : Encoded} {rest : List Request} {i : Instr}
      (hr : s.requests = .word e :: rest) (hd : decode e = .ok i) :
      step s = exec i (takeRequest rest s) := by
    simp [step, hr, runRequest, hd]
  refine ⟨fun s e rest i => decoded, fun s nbits w i hw => ?_⟩
  rw [decoded (s := s.withFetchWord nbits w) (i := i) rfl, takeRequest_withFetchWord]
  unfold decodeTableWord at hw
  split at hw
  · next j hj => exact hj.trans (congrArg _ (Option.some.inj hw))
  · cases hw

/-! ### Reset, the selection of an operation, the direct write -/

/-- Settles O1: the record at reset is `CFG_DEFAULT`, and its legality is a law of the parameters. -/
theorem resetHoldsLegalDefaults : Obligations.ResetHoldsLegalDefaults :=
  ⟨rfl, rfl, rfl, rfl, rfl, Config.cfgDefault_chan_le, Config.cfgDefault_model_known,
    Config.cfgDefault_port_valid⟩

/-- Settles O2: the default baudrate is a symbol, and the empty trace asserts, persists and writes
nothing. -/
theorem resetMeetsInvariants : Obligations.ResetMeetsInvariants := by
  have htrace : State.reset.trace = [] := rfl
  refine ⟨⟨nofun, ?_, ?_, nofun⟩, ?_⟩
  · simp [htrace, lastAsserted]
  · simp [htrace, lastPersisted]
  · simp [htrace, WritesPrepared]

/-- Settles O10: the decoder's table of `OP`, value by value (R87). -/
theorem operationSelectCodes : Obligations.OperationSelectCodes :=
  fun _ => ⟨rfl, rfl, rfl, rfl, rfl, rfl, rfl, rfl⟩

/-- Settles O58: the step runs `writeCfr`, which writes the named register of CFR (R31). -/
theorem directWriteChangesOneRegister : Obligations.DirectWriteChangesOneRegister :=
  fun _ _ => ⟨fun _ => rfl, fun _ => rfl, fun _ => rfl, fun _ => rfl, fun _ => rfl, fun _ => rfl,
    fun _ => rfl, fun _ => rfl, fun _ => rfl, fun _ => rfl⟩

/-! ### The codes of no symbol -/

/-- The codes that a code table gives to none of the listed symbols. -/
def absentCodes {α : Type} {w : Nat} (code : α → BitVec w) (symbols : List α) :
    Finset (BitVec w) :=
  ((symbols.map code).toFinset)ᶜ

theorem mem_absentCodes {α : Type} {w : Nat} {code : α → BitVec w} {symbols : List α}
    (hall : ∀ a, a ∈ symbols) (c : BitVec w) : c ∈ absentCodes code symbols ↔ ∀ a, code a ≠ c := by
  simp [absentCodes, hall]

/-- An injective table of `n` symbols leaves all but `n` of the `2 ^ w` codes absent. -/
theorem card_absentCodes {α : Type} {w : Nat} {code : α → BitVec w} (hcode : Function.Injective code)
    {symbols : List α} (hnodup : symbols.Nodup) :
    (absentCodes code symbols).card = 2 ^ w - symbols.length := by
  have hw : Fintype.card (BitVec w) = 2 ^ w := by
    rw [Fintype.card_congr BitVec.equivFin.toEquiv, Fintype.card_fin]
  rw [absentCodes, Finset.card_compl, List.toFinset_card_of_nodup (hnodup.map hcode),
    List.length_map, hw]

theorem mem_absentCodes_parity (c : BitVec 2) :
    c ∈ absentCodes Config.parityCode Parity.all ↔ parityInv c = none := by
  rw [parityInv_eq_none, mem_absentCodes fun p => by cases p <;> simp [Parity.all]]

theorem mem_absentCodes_drate (c : BitVec 3) :
    c ∈ absentCodes Config.drateCode Drate.all ↔ drateInv c = none := by
  rw [drateInv_eq_none, mem_absentCodes fun d => by cases d <;> simp [Drate.all]]

/-- Settles O22: three symbols in four codes leave one, six in eight leave two, and eight in eight leave
none. -/
theorem absentCodesAreOneParityTwoDatarates : Obligations.AbsentCodesAreOneParityTwoDatarates := by
  have hparity : (absentCodes Config.parityCode Parity.all).card = 1 :=
    card_absentCodes Config.parityCode_injective (by decide)
  have hdrate : (absentCodes Config.drateCode Drate.all).card = 2 :=
    card_absentCodes Config.drateCode_injective (by decide)
  refine ⟨?_, fun c => Option.ne_none_iff_exists'.mp (baudInv_ne_none c), ?_⟩
  · simpa only [mem_absentCodes_parity] using Finset.card_eq_one_iff_existsUnique.mp hparity
  · obtain ⟨c, d, hne, hcd⟩ := Finset.card_eq_two.mp hdrate
    refine ⟨c, d, hne, fun x => ?_⟩
    rw [← mem_absentCodes_drate, hcd, Finset.mem_insert, Finset.mem_singleton]

end Sys2Proof.Machine
end

section
/-! PROOFS. The Checksum engine and the order of the bytes (R58, R120). -/

namespace Sys2Proof.Machine

theorem exec_csum (text : Bytes) (s : State) :
    exec (.csum text) s = .next (deliver { Out.ok with cs := some (checksum text) } s) := rfl

theorem exec_csverify (text : Bytes) (s : State) :
    exec (.csverify text) s = .next (deliver { Out.ok with zero := some (zeroSum text) } s) := rfl

theorem sumBytes_eq_of_perm {a b : Bytes} (h : a.Perm b) : sumBytes a = sumBytes b := by
  rw [sumBytes_eq_sum, sumBytes_eq_sum, (h.map BitVec.toNat).sum_eq]

theorem checksum_eq_of_perm {a b : Bytes} (h : a.Perm b) : checksum a = checksum b := by
  rw [checksum, checksum, sumBytes_eq_of_perm h]

theorem zeroSum_eq_of_perm {a b : Bytes} (h : a.Perm b) : zeroSum a = zeroSum b := by
  rw [zeroSum, zeroSum, sumBytes_eq_of_perm h]

/-- Settles O28: each operation reads its bytes through their sum alone, and the sum of a permuted
sequence is the same. -/
theorem checksumIgnoresByteOrder : Obligations.ChecksumIgnoresByteOrder := by
  intro a b s hab
  constructor
  · rw [exec_csum, exec_csum, checksum_eq_of_perm hab]
  · rw [exec_csverify, exec_csverify, zeroSum_eq_of_perm hab]

end Sys2Proof.Machine
end

section
/-! PROOFS. The encodings (30_encoding.md): decoder and encoder undo each other format by format,
what is no command and no response fails with `PROTOCOL`, and the rows of a set-config frame, of a
configuration response and of an outgoing message. -/

namespace Sys2Proof.Machine

/-! ### The register frame, format CFG6 (R71) -/

/-- A set-config frame decodes to its command with the fields it was built of (R71, R86). -/
theorem decodeCommand_cfgFrame_save (f : CfgFields) :
    decodeCommand (cfgFrame 0xC0#8 f).toBytes = .ok (.setConfigPwrDwnSave f) :=
  congrArg Except.ok (congrArg Instr.setConfigPwrDwnSave (cfgFields_cfgFrame 0xC0#8 f))

theorem decodeCommand_cfgFrame_noSave (f : CfgFields) :
    decodeCommand (cfgFrame 0xC2#8 f).toBytes = .ok (.setConfigPwrDwnNoSave f) :=
  congrArg Except.ok (congrArg Instr.setConfigPwrDwnNoSave (cfgFields_cfgFrame 0xC2#8 f))

/-- A command frame that decodes is the encoding of its command, bit for bit (R71, R72, R86). -/
theorem encode_of_decodeCommand {bs : Bytes} {i : Instr} (h : decodeCommand bs = .ok i) :
    encode i = .commandFrame bs := by
  rcases decodeCommand_cases bs with ⟨rfl, hd⟩ | ⟨rfl, hd⟩ | ⟨rfl, hd⟩ |
      ⟨r, rfl, ⟨hb, hd⟩ | ⟨hb, hd⟩⟩ | ⟨e, hd, -⟩ <;>
    cases hd.symm.trans h
  · rfl
  · rfl
  · rfl
  · rw [encode, ← hb, cfgFrame_cfgFields]
  · rw [encode, ← hb, cfgFrame_cfgFields]

/-! ### The responses, formats RSP6 and RSP4 (R73, R74) -/

/-- Everything the decoder answers on a response frame: its length alone decides (R91, R93). -/
theorem decodeResponse_cases (bs : Bytes) :
    (∃ r : Frame6, bs = r.toBytes ∧
      decodeResponse bs = .ok (.rsp6ConfigResponse r.b0 (cfgFields r))) ∨
    (∃ r : Frame4, bs = r.toBytes ∧
      decodeResponse bs = .ok (.rsp4VersionResponse r.b0 r.b1 r.b2 r.b3)) ∨
    decodeResponse bs = .error (.responseLength bs.length) := by
  unfold decodeResponse
  split
  · next b0 b1 b2 b3 b4 b5 => exact .inl ⟨⟨b0, b1, b2, b3, b4, b5⟩, rfl, rfl⟩
  · next b0 b1 b2 b3 => exact .inr (.inl ⟨⟨b0, b1, b2, b3⟩, rfl, rfl⟩)
  · exact .inr (.inr rfl)

/-- A configuration response decodes to its header and the fields it was built of (R73, R91). -/
theorem decodeResponse_cfgFrame (h : Byte) (f : CfgFields) :
    decodeResponse (cfgFrame h f).toBytes = .ok (.rsp6ConfigResponse h f) :=
  congrArg Except.ok (congrArg (Instr.rsp6ConfigResponse h) (cfgFields_cfgFrame h f))

/-- A response frame that decodes is the encoding of its row, bit for bit (R73, R74). -/
theorem encode_of_decodeResponse {bs : Bytes} {i : Instr} (h : decodeResponse bs = .ok i) :
    encode i = .response bs := by
  rcases decodeResponse_cases bs with ⟨r, rfl, hd⟩ | ⟨r, rfl, hd⟩ | hd <;> cases hd.symm.trans h
  · rw [encode, cfgFrame_cfgFields]
  · rfl

/-! ### The outgoing message, format MSG (R75) -/

/-- In transparent mode: the text and its suffix, whatever the destination (R75, R135). -/
theorem messageFrame_transparent (useCs : Bool) (a : BitVec 16) (ch : Byte) (text : Bytes) :
    messageFrame false useCs a ch text = text ++ messageSuffix useCs text := rfl

/-- In fixed mode: the three bytes of the destination, then the same (R132, R135). -/
theorem messageFrame_fixed (useCs : Bool) (a : BitVec 16) (ch : Byte) (text : Bytes) :
    messageFrame true useCs a ch text =
      highByte a :: lowByte a :: ch :: (text ++ messageSuffix useCs text) := rfl

/-- The decoder takes exactly a text behind which its own suffix stands (R75, R134). -/
theorem decodeText_eq_ok {useCs : Bool} {bs text : Bytes} :
    decodeText useCs bs = .ok text ↔ bs = text ++ messageSuffix useCs text := by
  cases useCs with
  | false => simp [decodeText, messageSuffix]
  | true =>
    rcases List.eq_nil_or_concat bs with rfl | ⟨init, last, rfl⟩
    · simp [decodeText, messageSuffix]
    · by_cases hlast : last = checksum init
      · simp +contextual [decodeText, messageSuffix, hlast]
      · have hne : init = text → ¬ last = checksum text := fun h => h ▸ hlast
        simpa [decodeText, messageSuffix, hlast] using hne

theorem decodeOutMessage_transparent (useCs : Bool) (bs : Bytes) :
    decodeOutMessage false useCs bs = (decodeText useCs bs).map (.msgTransparent useCs) := by
  cases h : decodeText useCs bs <;> simp [decodeOutMessage, h, Except.map]

theorem decodeOutMessage_fixed (useCs : Bool) (hi lo ch : Byte) (rest : Bytes) :
    decodeOutMessage true useCs (hi :: lo :: ch :: rest) =
      (decodeText useCs rest).map (.msgFixed (joinBytes hi lo) ch useCs) := by
  cases h : decodeText useCs rest <;> simp [decodeOutMessage, h, Except.map]

/-- A fixed-mode message frame that decodes has the three bytes of its destination (R75). -/
theorem decodeOutMessage_fixed_cons {useCs : Bool} {bs : Bytes} {i : Instr}
    (h : decodeOutMessage true useCs bs = .ok i) :
    ∃ hi lo ch rest, bs = hi :: lo :: ch :: rest := by
  match bs, h with
  | hi :: lo :: ch :: rest, _ => exact ⟨hi, lo, ch, rest, rfl⟩

/-- A mapped result is good only when the result it maps is. -/
theorem except_map_eq_ok {ε α β : Type} {f : α → β} {x : Except ε α} {b : β}
    (h : x.map f = .ok b) : ∃ a, x = .ok a ∧ f a = b := by
  cases x with
  | ok a => exact ⟨a, rfl, Except.ok.inj h⟩
  | error e => cases h

/-- An outgoing message frame that decodes is the encoding of its row, bit for bit (R75). -/
theorem encode_of_decodeOutMessage {fixed useCs : Bool} {bs : Bytes} {i : Instr}
    (h : decodeOutMessage fixed useCs bs = .ok i) : encode i = .outMessage fixed useCs bs := by
  cases fixed with
  | false =>
    rw [decodeOutMessage_transparent] at h
    obtain ⟨text, ht, rfl⟩ := except_map_eq_ok h
    rw [encode, messageFrame_transparent, ← decodeText_eq_ok.mp ht]
  | true =>
    obtain ⟨hi, lo, ch, rest, rfl⟩ := decodeOutMessage_fixed_cons h
    rw [decodeOutMessage_fixed] at h
    obtain ⟨text, ht, rfl⟩ := except_map_eq_ok h
    rw [encode, messageFrame_fixed, ← decodeText_eq_ok.mp ht, highByte_joinBytes, lowByte_joinBytes]

/-- The two shapes of an outgoing message decode to their rows (R75). -/
theorem decodeOutMessage_messageFrame_transparent (useCs : Bool) (text : Bytes) :
    decodeOutMessage false useCs (messageFrame false useCs 0 0 text) =
      .ok (.msgTransparent useCs text) := by
  rw [messageFrame_transparent, decodeOutMessage_transparent, decodeText_eq_ok.mpr rfl, Except.map]

theorem decodeOutMessage_messageFrame_fixed (useCs : Bool) (a : BitVec 16) (ch : Byte)
    (text : Bytes) :
    decodeOutMessage true useCs (messageFrame true useCs a ch text) =
      .ok (.msgFixed a ch useCs text) := by
  rw [messageFrame_fixed, decodeOutMessage_fixed, decodeText_eq_ok.mpr rfl, Except.map,
    joinBytes_high_low]

/-! ### The block operation (R87) -/

/-- The operation a value of `OP` selects is encoded with that value (R87). -/
theorem encode_decodeOp (sel : BitVec 3) (p : Ports) :
    ∃ ports, encode (decodeOp sel p) = .op sel ports := by
  obtain ⟨⟨n, hn⟩⟩ := sel
  interval_cases n <;> exact ⟨_, rfl⟩

/-! ### The round trips -/

/-- Settles O8: each row by its format; only the register frames and the outgoing messages compute
anything. -/
theorem decodeOfEncodeIsTheInstruction : Obligations.DecodeOfEncodeIsTheInstruction := by
  intro i
  cases i with
  | setConfigPwrDwnSave f => exact decodeCommand_cfgFrame_save f
  | setConfigPwrDwnNoSave f => exact decodeCommand_cfgFrame_noSave f
  | rsp6ConfigResponse h f => exact decodeResponse_cfgFrame h f
  | msgTransparent useCs text => exact decodeOutMessage_messageFrame_transparent useCs text
  | msgFixed a ch useCs text => exact decodeOutMessage_messageFrame_fixed useCs a ch text
  | _ => rfl

/-- Settles O9: each form by the decoder it goes to; that the `OP` value found decodes to the
instruction again is O8. -/
theorem encodeOfDecodeIsTheFrame : Obligations.EncodeOfDecodeIsTheFrame := by
  intro e i h
  cases e with
  | op sel p =>
    obtain rfl := Except.ok.inj h
    obtain ⟨ports, hports⟩ := encode_decodeOp sel p
    exact ⟨ports, hports, hports ▸ decodeOfEncodeIsTheInstruction _⟩
  | commandFrame bs => exact encode_of_decodeCommand h
  | response bs => exact encode_of_decodeResponse h
  | outMessage fixed useCs bs => exact encode_of_decodeOutMessage h
  | inMessage useCs bs =>
    obtain rfl := Except.ok.inj h
    rfl

/-- Settles O11: the decoder evaluated on each word. -/
theorem specWordsDecode : Obligations.SpecWordsDecode := by
  refine ⟨?_, ?_, ?_, ?_, ?_⟩ <;> decide

/-- Settles O43: the frame is built of the fields CFR packs to, which the decoder finds again and
UNPACK_CFG reads back. -/
theorem setConfigFrameIsItsOwnRow : Obligations.SetConfigFrameIsItsOwnRow := by
  intro fr c
  constructor <;> intro h <;> obtain ⟨f, hf, rfl⟩ := Option.map_eq_some_iff.mp h
  · exact ⟨f, decodeCommand_cfgFrame_save f, unpackFields_of_packFields hf⟩
  · exact ⟨f, decodeCommand_cfgFrame_noSave f, unpackFields_of_packFields hf⟩

/-! ### Frames and bytes that are no command and no response (R90, R93) -/

/-- A step whose first request decodes to nothing raises the cause of the rejection (R90, R185). -/
theorem step_of_rejected_word {s : State} {e : Encoded} {rest : List Request} {r : DecodeReject}
    (hr : s.requests = .word e :: rest) (hd : decode e = .error r) :
    step s = .next (raise (DecodeReject.cause r) (takeRequest rest s)) := by
  simp [step, hr, runRequest, hd, rejectWord]

/-- Settles O59: of the answers of the decoder, the hypotheses leave the rejection. -/
theorem commandFrameOfNoCommandFails : Obligations.CommandFrameOfNoCommandFails := by
  intro s bs rest hr h1 h3 h4 hcfg
  rcases decodeCommand_cases bs with ⟨hbs, -⟩ | ⟨hbs, -⟩ | ⟨hbs, -⟩ | ⟨r, rfl, hb⟩ | ⟨e, hd, hcause⟩
  · exact absurd hbs h1
  · exact absurd hbs h3
  · exact absurd hbs h4
  · obtain ⟨h0, h2⟩ := hcfg rfl
    rcases hb with ⟨hb, -⟩ | ⟨hb, -⟩
    · exact absurd (congrArg some hb) h0
    · exact absurd (congrArg some hb) h2
  · rw [step_of_rejected_word hr hd, hcause]
    rfl

/-- Settles O14: a response frame of another length is rejected by its length. -/
theorem responseFrameOfOtherLengthFails : Obligations.ResponseFrameOfOtherLengthFails := by
  intro s bs rest hr h6 h4
  rcases decodeResponse_cases bs with ⟨r, rfl, -⟩ | ⟨r, rfl, -⟩ | hd
  · exact absurd rfl h6
  · exact absurd rfl h4
  · exact step_of_rejected_word hr hd

/-- Settles O12: the byte by name is none of `commandOf`'s table, and three times it is a command
frame of no command (O59). -/
theorem unrecognizedCommandFails : Obligations.UnrecognizedCommandFails := by
  intro s k rest h0 h1 h2 h3 h4 hr
  rcases hr with hr | hr
  · have hk : commandOf k = none := by simp [commandOf, h0, h1, h2, h3, h4]
    rw [step_of_call hr, runHostCall, requestCommand, hk]
    rfl
  · exact commandFrameOfNoCommandFails s _ rest hr (by simp [h1]) (by simp [h3]) (by simp [h4])
      nofun

/-- Settles O13: the table of `commandOf`, byte by byte (R86). -/
theorem commandCallRunsTheCommand : Obligations.CommandCallRunsTheCommand := by
  intro s k rest f hr
  rw [step_of_call hr]
  refine ⟨?_, ?_, ?_, ?_, ?_⟩ <;> (rintro rfl; rfl)

/-- Settles O23: `OP = 111` raises `PROTOCOL` and does nothing else (R92). -/
theorem reservedOperationFails : Obligations.ReservedOperationFails := fun _ => rfl

/-! ### The rows presented as instructions -/

/-- A configuration response leaves in CFR what its fields unpack to (R104). -/
theorem exec_rsp6ConfigResponse (h : Byte) (f : CfgFields) (s : State) :
    exec (.rsp6ConfigResponse h f) s = .next (deliver .ok { s with cfr := unpackFields f }) := by
  rw [exec, execRsp6ConfigResponse, unpackCfg, cfgFields_cfgFrame]

/-- Settles O18: the registers are the unpacked fields, and a code's symbol is the one the inverse
table gives (R105). -/
theorem configResponseDecodesIntoCfr : Obligations.ConfigResponseDecodesIntoCfr :=
  fun h f s => ⟨unpackFields f, exec_rsp6ConfigResponse h f s, rfl, fun _ => parityInv_eq_some,
    fun _ => baudInv_eq_some, fun _ => drateInv_eq_some, rfl, rfl, rfl, rfl, rfl, rfl⟩

/-- TXFRAME of a map delivers the frame of the shape `TMODE` names (R132, R135). -/
theorem exec_txframe_map (useCs : Bool) (a : BitVec 16) (ch : Byte) (text : Bytes) (s : State) :
    exec (.txframe true useCs a ch text) s = .next (deliver
      { Out.ok with msg := some (messageFrame (fixedMode s.cfr) useCs a ch text) } s) := rfl

/-- Settles O32: both frames end with the text and its suffix, and `TMODE` chooses between them. -/
theorem messageRowsAreTxframeResults : Obligations.MessageRowsAreTxframeResults := by
  intro useCs a ch text s
  refine ⟨highByte a, lowByte a, messageSuffix useCs text, highByte_toNat a, lowByte_toNat a,
    messageSuffix_length useCs text, rfl, rfl, ?_⟩
  rw [exec_txframe_map]
  split
  · next h => rw [show fixedMode s.cfr = true by simp [fixedMode, h]]; rfl
  · next h => rw [show fixedMode s.cfr = false by simp [fixedMode, h]]; rfl

end Sys2Proof.Machine
end

section
/-! PROOFS. The Bitfield Codec (41_bitfield_codec.md): PACK_CFG, UNPACK_CFG and UNPACK_VER, the two round
trips, and the set-config command over a `NULL`. -/

namespace Sys2Proof.Machine

/-! ### The codec's operations as instructions -/

/-- Fields that CFR packs to go out in one frame (R100, R102). -/
theorem exec_packCfg_of_fields (hdr : Byte) {s : State} {f : CfgFields}
    (h : packFields s.cfr = some f) :
    exec (.packCfg hdr) s =
      .next (deliver { Out.ok with frame6 := some (cfgFrame hdr f) } s) := by
  rw [exec, execPackCfg, packCfg, packFrame, h]
  rfl

/-- CFR that packs to no fields raises `VALIDATION` (R101). -/
theorem exec_packCfg_of_null (hdr : Byte) {s : State} (h : packFields s.cfr = none) :
    exec (.packCfg hdr) s = .next (raise .validation s) := by
  rw [exec, execPackCfg, packCfg, packFrame, h]
  rfl

/-- UNPACK_CFG leaves in CFR what the fields of its operand unpack to (R104). -/
theorem exec_unpackCfg (r : Frame6) (s : State) :
    exec (.unpackCfg r) s =
      .next (deliver .ok { s with cfr := unpackFields (cfgFields r) }) := rfl

/-- UNPACK_VER delivers three results and writes no state (R108, R109). -/
theorem exec_unpackVer (h q v e : Byte) (s : State) :
    exec (.unpackVer ⟨h, q, v, e⟩) s = .next (deliver
      { Out.ok with vband := some (versionBand q), vver := some v, vfeat := some e } s) := rfl

/-- A version response is UNPACK_VER of its four bytes (R74, R108). -/
theorem exec_rsp4VersionResponse (h q v e : Byte) (s : State) :
    exec (.rsp4VersionResponse h q v e) s = exec (.unpackVer ⟨h, q, v, e⟩) s := rfl

/-! ### The three coded registers, read off byte 3 as a number (R76, R105) -/

theorem unpackFields_parity_eq_some {r : Frame6} {p : Parity} :
    (unpackFields (cfgFields r)).parity = some p ↔
      (Config.parityCode p).toNat = r.b3.toNat / 64 := by
  rw [← extract_6_2_toNat, BitVec.toNat_inj]
  exact parityInv_eq_some

theorem unpackFields_baud_eq_some {r : Frame6} {b : Baud} :
    (unpackFields (cfgFields r)).baud = some b ↔
      (Config.baudCode b).toNat = r.b3.toNat / 8 % 8 := by
  rw [← extract_3_3_toNat, BitVec.toNat_inj]
  exact baudInv_eq_some

theorem unpackFields_drate_eq_some {r : Frame6} {d : Drate} :
    (unpackFields (cfgFields r)).drate = some d ↔
      (Config.drateCode d).toNat = r.b3.toNat % 8 := by
  rw [← extract_0_3_toNat, BitVec.toNat_inj]
  exact drateInv_eq_some

/-! ### PACK_CFG after UNPACK_CFG on fields (R111) -/

/-- Fields whose three codes are those of symbols come back as they were (R111). -/
theorem packFields_unpackFields {f : CfgFields} {p : Parity} {b : Baud} {d : Drate}
    (hp : parityInv f.parity = some p) (hb : baudInv f.baud = some b)
    (hd : drateInv f.drate = some d) : packFields (unpackFields f) = some f := by
  rw [packFields_eq_some (c := unpackFields f) hp hb hd, parityInv_eq_some.mp hp,
    baudInv_eq_some.mp hb, drateInv_eq_some.mp hd]
  rfl

/-- A response whose codes are all present repacks to its own fields (R111). -/
theorem packFields_of_allCodesPresent {r : Frame6} (h : AllCodesPresent r) :
    packFields (unpackFields (cfgFields r)) = some (cfgFields r) := by
  obtain ⟨⟨p, hp⟩, ⟨b, hb⟩, ⟨d, hd⟩⟩ := h
  exact packFields_unpackFields (unpackFields_parity_eq_some.mpr hp)
    (unpackFields_baud_eq_some.mpr hb) (unpackFields_drate_eq_some.mpr hd)

/-- A response with an absent code leaves a `NULL`, which packs to nothing (R101, R105, R111). -/
theorem packFields_of_not_allCodesPresent {r : Frame6} (h : ¬ AllCodesPresent r) :
    packFields (unpackFields (cfgFields r)) = none := by
  rw [packFields_eq_none]
  contrapose! h
  obtain ⟨hp, hb, hd⟩ := h
  obtain ⟨p, hp⟩ := Option.ne_none_iff_exists'.mp hp
  obtain ⟨b, hb⟩ := Option.ne_none_iff_exists'.mp hb
  obtain ⟨d, hd⟩ := Option.ne_none_iff_exists'.mp hd
  exact ⟨⟨p, unpackFields_parity_eq_some.mp hp⟩, ⟨b, unpackFields_baud_eq_some.mp hb⟩,
    ⟨d, unpackFields_drate_eq_some.mp hd⟩⟩

/-! ### The codec's statements -/

/-- Settles O15: the bytes are those of `cfgFrame`, each as the arithmetic of its fields. -/
theorem packCfgBuildsTheFrame : Obligations.PackCfgBuildsTheFrame :=
  fun hdr _ _ => ⟨rfl,
    fun _ _ _ hp hb hd => ⟨_, exec_packCfg_of_fields hdr (packFields_eq_some hp hb hd), rfl,
      highByte_toNat _, lowByte_toNat _, byte3_toNat _ _ _, rfl, byte5_toNat _ _ _ _ _⟩,
    fun hnull => exec_packCfg_of_null hdr (packFields_eq_none.mpr hnull)⟩

/-- Settles O16: the fields CFR packs to hold the three pinned codes, and the frame of those fields is
computed. -/
theorem packCfgScenarioOne : Obligations.PackCfgScenarioOne := by
  intro hdr chan s hs
  have hf : packFields s.cfr = some ⟨6#16, 0#2, 3#3, 2#3, chan, 0#1, 1#1, 0#3, 1#1, 0#2⟩ := by
    simp [hs, packFields]
  have hhigh : highByte 6#16 = 0#8 := by decide
  have hlow : lowByte 6#16 = 6#8 := by decide
  have hcodes : byte3 0#2 3#3 2#3 = 0x1A#8 := by decide
  have hoptions : byte5 0#1 1#1 0#3 1#1 0#2 = 0x44#8 := by decide
  rw [exec_packCfg_of_fields hdr hf, cfgFrame, hhigh, hlow, hcodes, hoptions]
  rfl

/-- Settles O17: the registers are the unpacked fields, each as a quotient and a remainder of its
byte. -/
theorem unpackCfgWritesTheTenRegisters : Obligations.UnpackCfgWritesTheTenRegisters :=
  fun r _ s => ⟨unpackFields (cfgFields r), rfl, exec_unpackCfg r s, joinBytes_toNat _ _,
    fun _ => unpackFields_parity_eq_some, fun _ => unpackFields_baud_eq_some,
    fun _ => unpackFields_drate_eq_some, rfl, extract_7_1_toNat _, extract_6_1_toNat _,
    extract_3_3_toNat _, extract_2_1_toNat _, extract_0_2_toNat _⟩

/-- Settles O19: `versionBand` is the band of the statement, and the row is UNPACK_VER. -/
theorem unpackVerDeliversTheVersion : Obligations.UnpackVerDeliversTheVersion :=
  fun h q v e _ s => ⟨rfl, exec_unpackVer h q v e s,
    (exec_rsp4VersionResponse h q v e s).trans (exec_unpackVer h q v e s)⟩

/-- Settles O20: the frame carries the fields CFR packs to, and those unpack to CFR (R107). -/
theorem unpackOfPackRestoresEveryRegister : Obligations.UnpackOfPackRestoresEveryRegister := by
  intro hdr s hp hb hd
  have hsome : packFields s.cfr ≠ none := by simp [packFields_eq_none, hp, hb, hd]
  obtain ⟨f, hf⟩ := Option.ne_none_iff_exists'.mp hsome
  refine ⟨cfgFrame hdr f, exec_packCfg_of_fields hdr hf, fun u => ?_⟩
  rw [exec_unpackCfg, cfgFields_cfgFrame, unpackFields_of_packFields hf]
  rfl

/-- Settles O21: repacking gives the response's own fields, which behind its own header are the
response, or stops at the `NULL` of an absent code (R111). -/
theorem packOfUnpackRestoresTheBytes : Obligations.PackOfUnpackRestoresTheBytes := by
  intro r s t ht
  obtain rfl := Host.Outcome.next.inj ((exec_unpackCfg r s).symm.trans ht)
  constructor <;> intro hcodes
  · rw [exec_packCfg_of_fields r.b0 (packFields_of_allCodesPresent hcodes), cfgFrame_cfgFields]
    rfl
  · exact exec_packCfg_of_null r.b0 (packFields_of_not_allCodesPresent hcodes)

/-! ### A set-config command over a `NULL` (R101, R152) -/

theorem packFrame_eq_none {hdr : Byte} {c : Cfr} :
    packFrame hdr c = none ↔ c.parity = none ∨ c.baud = none ∨ c.drate = none := by
  rw [packFrame, Option.map_eq_none_iff, packFields_eq_none]

/-- A command without a frame ends once the mode is forced, before any I/O (R101, R152). -/
theorem runCommand_of_no_frame {c : Command} {s : State} (h : commandFrame c s.cfr = none) :
    runCommand c s = raise .validation (setMode .sleep s) := by
  rcases runCommand_cases c s with ⟨-, hrun⟩ | ⟨frame, hframe, -⟩
  · exact hrun
  · cases h.symm.trans hframe

/-- `setMode` writes the mode and the two events of driving and settling the lines (R151). -/
theorem setMode_eq (m : Mode) (s : State) :
    setMode m s = { s with mode := m, trace := s.trace ++ [.setLines m, .wait 50] } := by
  simp [setMode, wait, emit]

/-- Settles O48: neither set-config command has a frame, so each raises `VALIDATION` on the state in
which `sleep` was forced. -/
theorem setConfigValidationBeforeAnyIO : Obligations.SetConfigValidationBeforeAnyIO := by
  intro f s hnull t
  have hframe (hdr : Byte) : (packFrame hdr s.cfr).map Frame6.toBytes = none := by
    rw [packFrame_eq_none.mpr hnull, Option.map_none]
  have ht : raise .validation (setMode .sleep s) = t := by rw [setMode_eq]; rfl
  have hrun (c : Command) (hc : commandFrame c s.cfr = none) : runCommand c s = t :=
    (runCommand_of_no_frame hc).trans ht
  exact ⟨congrArg Host.Outcome.next (hrun .setConfigPwrDwnSave (hframe 0xC0#8)),
    congrArg Host.Outcome.next (hrun .setConfigPwrDwnNoSave (hframe 0xC2#8))⟩

end Sys2Proof.Machine
end

section
/-! PROOFS. The results of CSUM and CSVERIFY and how they answer each other (42_checksum.md R120 to R127):
what each instruction delivers is stated once, in the arithmetic of the byte sum. -/

namespace Sys2Proof.Machine

/-- The zero-sum test as the spec's arithmetic on the sum of the bytes (R12, R121). -/
theorem zeroSum_eq_decide_sum (t : Bytes) :
    zeroSum t = decide ((t.map BitVec.toNat).sum % 256 = 0) := by
  rw [Bool.eq_iff_iff, zeroSum_iff, decide_eq_true_iff, sumBytes_eq_sum]

/-- Behind a text, the zero-sum test compares the last byte with the text's checksum (R126). -/
theorem zeroSum_append_eq_decide (t : Bytes) (c : Byte) :
    zeroSum (t ++ [c]) = decide (c = checksum t) := by
  rw [Bool.eq_iff_iff, zeroSum_append_singleton, decide_eq_true_iff]

/-- CSUM delivers one byte only: the checksum of its text (R120). -/
theorem eq_checksum_of_exec_csum {text : Bytes} {c : Byte} {s : State}
    (h : exec (.csum text) s = .next (deliver { Out.ok with cs := some c } s)) :
    c = checksum text := by
  have hstate := Host.Outcome.next.inj ((exec_csum text s).symm.trans h)
  have hcs : some (checksum text) = some c := congrArg (·.out.cs) hstate
  exact (Option.some.inj hcs).symm

/-- CSVERIFY of a text and one byte behind it delivers whether that byte is the text's checksum
(R126). -/
theorem exec_csverify_append (text : Bytes) (last : Byte) (u : State) :
    exec (.csverify (text ++ [last])) u =
      .next (deliver { Out.ok with zero := some (decide (last = checksum text)) } u) := by
  rw [exec_csverify, zeroSum_append_eq_decide]

/-- Settles O24: the byte is `checksum`, whose value is the negated sum modulo 256. -/
theorem csumIsTheTwosComplementOfTheSum : Obligations.CsumIsTheTwosComplementOfTheSum := by
  intro text ports s
  refine ⟨checksum text, rfl, exec_csum text s, ?_⟩
  rw [checksum_toNat, sumBytes_eq_sum]

/-- Settles O25: CSVERIFY has one answer on every state, and its result is the test of the sum. -/
theorem csverifyReportsTheZeroSum : Obligations.CsverifyReportsTheZeroSum := by
  intro text ports s
  refine ⟨rfl, ?_⟩
  rw [exec_csverify, zeroSum_eq_decide_sum]
  rfl

/-- Settles O27: CSUM delivered the checksum of the others, and the zero-sum test compares with it. -/
theorem zeroSumAgreesWithRecomputation : Obligations.ZeroSumAgreesWithRecomputation := by
  intro text last c s u hcsum
  rw [eq_checksum_of_exec_csum hcsum]
  exact exec_csverify_append text last u

/-- Settles O26: the case of O27 whose last byte is the one CSUM delivers. -/
theorem checksumIsSelfInverting : Obligations.ChecksumIsSelfInverting := by
  intro text s u
  refine ⟨checksum text, exec_csum text s, ?_⟩
  rw [zeroSumAgreesWithRecomputation text _ _ s u (exec_csum text s), decide_eq_true rfl]

end Sys2Proof.Machine
end

section
/-! PROOFS. The Message Framer (43_message_framer.md): the message TXFRAME builds, the check and the parse
of RXDEFRAME, and the host procedures Send and Receive around them. -/

namespace Sys2Proof.Machine

/-! ### TXFRAME (R131 to R135, R145) -/

theorem fixedMode_eq_true {c : Cfr} : fixedMode c = true ↔ c.tmode = 1#1 := by
  rw [fixedMode, beq_iff_eq]

/-- What `TMODE` puts before the text: the destination, or nothing (R132). -/
theorem messagePrefix_fixedMode (c : Cfr) (a : BitVec 16) (ch : Byte) :
    messagePrefix (fixedMode c) a ch =
      if c.tmode = 1#1 then [highByte a, lowByte a, ch] else [] := by
  simp only [messagePrefix, fixedMode_eq_true]

/-- TXFRAME of a non-map raises `VALIDATION` (R131). -/
theorem exec_txframe_nonMap (useCs : Bool) (a : BitVec 16) (ch : Byte) (text : Bytes) (s : State) :
    exec (.txframe false useCs a ch text) s = .next (raise .validation s) := rfl

/-- Settles O29: the two address bytes are the quotient and the remainder by 256, the last byte is the
checksum, and `TMODE` decides on the three bytes before the text. -/
theorem txframeBuildsTheMessage : Obligations.TxframeBuildsTheMessage := by
  intro useCs a ch text s
  refine ⟨⟨highByte a, lowByte a, checksum text, highByte_toNat a, lowByte_toNat a,
    exec_csum text s, ?_⟩, exec_txframe_nonMap useCs a ch text s⟩
  rw [exec_txframe_map, messageFrame, messagePrefix_fixedMode]
  rfl

theorem messageFrame_length (fixed useCs : Bool) (a : BitVec 16) (ch : Byte) (text : Bytes) :
    (messageFrame fixed useCs a ch text).length =
      text.length + (if fixed then 3 else 0) + (if useCs then 1 else 0) := by
  rw [messageFrame, List.length_append, List.length_append, messagePrefix_length,
    messageSuffix_length]
  omega

/-- Settles O30: the length of the frame, with `TMODE` read as the transmission mode. -/
theorem txframeLength : Obligations.TxframeLength := by
  intro useCs a ch text s
  refine ⟨_, _, exec_txframe_map useCs a ch text s, rfl, ?_⟩
  simp only [messageFrame_length, fixedMode_eq_true]

/-- Settles O31: a map's message is built from `fixedMode`, which reads `TMODE` alone, and a non-map's
failure reads nothing. -/
theorem txframeReadsOnlyTmode : Obligations.TxframeReadsOnlyTmode := by
  intro isMap useCs a ch text s s' t t' htm ht ht'
  obtain rfl := Host.Outcome.next.inj ht
  obtain rfl := Host.Outcome.next.inj ht'
  have hmode : fixedMode s.cfr = fixedMode s'.cfr := by rw [fixedMode, fixedMode, htm]
  cases isMap with
  | false => rfl
  | true => simp only [txframe, if_true, deliver_out, hmode]

/-! ### RXDEFRAME (R136 to R139, R142, R144) -/

theorem exec_rxdeframe (useCs : Bool) (rxb : Option Bytes) (s : State) :
    exec (.rxdeframe useCs rxb) s = .next (rxdeframe useCs rxb s) := rfl

theorem exec_msgReceived (useCs : Bool) (rxb : Bytes) (s : State) :
    exec (.msgReceived useCs rxb) s = .next (rxdeframe useCs (some rxb) s) := rfl

/-- How a receive ends once its text is handed to `Parse` (R137, R139): the part of `deframe` after the
zero-sum test. -/
def parseReceived (text : Bytes) (s : State) : State :=
  match Config.parse text with
  | some p => deliver (.message p) { s with last := some p }
  | none => raiseNoMessage .parse s

/-- Bytes that need no check or pass it are handed to `Parse` (R139, R142). -/
theorem deframe_of_accepted {useCs : Bool} {rxb : Bytes} (h : useCs = true → zeroSum rxb = true)
    (s : State) : deframe useCs rxb s = parseReceived (receivedText useCs rxb) s := by
  rw [parseReceived]
  rcases deframe_cases useCs rxb s with ⟨hcs, hz, -⟩ | ⟨-, ⟨hp, hd⟩ | ⟨p, hp, hd⟩⟩
  · simp [h hcs] at hz
  · rw [hd, hp]
  · rw [hd, hp]

/-- With the checksum enabled a nonzero sum ends the receive before the parse (R139). -/
theorem deframe_of_nonzeroSum {rxb : Bytes} (h : zeroSum rxb = false) (s : State) :
    deframe true rxb s = raiseNoMessage .integrity s := by
  rw [deframe, h]
  rfl

theorem rxdeframe_of_ne_nil {rxb : Bytes} (h : rxb ≠ []) (useCs : Bool) (s : State) :
    rxdeframe useCs (some rxb) s = deframe useCs rxb s := by
  rcases rxdeframe_cases useCs (some rxb) s with ⟨hnil, -⟩ | ⟨bs, -, hbs, hd⟩
  · exact absurd hnil h
  · rw [hd, Option.some.inj hbs]

/-- RXDEFRAME of a sequence as the chain of its tests, the zero-sum test in the arithmetic of the spec
(R136, R139, R142). -/
theorem rxdeframe_some_eq_ite (useCs : Bool) (rxb : Bytes) (s : State) :
    rxdeframe useCs (some rxb) s =
      if rxb = [] then raiseNoMessage .none s
      else if useCs then
        if (rxb.map BitVec.toNat).sum % 256 = 0 then parseReceived rxb.dropLast s
        else raiseNoMessage .integrity s
      else parseReceived rxb s := by
  split_ifs with hnil hcs hsum
  · rw [hnil, rxdeframe]
  · rw [rxdeframe_of_ne_nil hnil,
      deframe_of_accepted fun _ => (zeroSum_eq_decide_sum rxb).trans (decide_eq_true hsum),
      receivedText, if_pos hcs]
  · rw [rxdeframe_of_ne_nil hnil, hcs,
      deframe_of_nonzeroSum ((zeroSum_eq_decide_sum rxb).trans (decide_eq_false hsum))]
  · rw [rxdeframe_of_ne_nil hnil, deframe_of_accepted fun h => absurd h hcs, receivedText,
      if_neg hcs]

/-- Settles O33: the chain of tests is that of `rxdeframe_some_eq_ite`, for the operation and for the
row. -/
theorem rxdeframeChecksThenParses : Obligations.RxdeframeChecksThenParses := by
  intro useCs rxb ports s noMessage parsed t
  have ht : rxdeframe useCs (some rxb) s = t := rxdeframe_some_eq_ite useCs rxb s
  exact ⟨rfl, rfl, (exec_rxdeframe ..).trans (congrArg _ ht),
    (exec_msgReceived ..).trans (congrArg _ ht)⟩

/-- With the checksum enabled, a text behind which its own checksum stands is handed to `Parse`
(R122, R142). -/
theorem rxdeframe_append_checksum (text : Bytes) (s : State) :
    rxdeframe true (some (text ++ [checksum text])) s = parseReceived text s := by
  rw [rxdeframe_of_ne_nil (List.concat_ne_nil _ _),
    deframe_of_accepted fun _ => (zeroSum_append_singleton text _).mpr rfl, receivedText,
    if_pos rfl, List.dropLast_concat]

/-- Settles O34: a transparent frame is the text and its checksum, and nothing of `CFR` is left in
it. -/
theorem loopbackHandsTheTextToParse : Obligations.LoopbackHandsTheTextToParse := by
  intro a ch text m s t u htm ht hm
  have hmode : fixedMode s.cfr = false := by rw [fixedMode, htm]; rfl
  rw [exec_txframe_map, hmode, messageFrame_transparent] at ht
  obtain rfl := Host.Outcome.next.inj ht
  obtain rfl := Option.some.inj hm
  rw [exec_rxdeframe]
  exact congrArg _ (rxdeframe_append_checksum text u)

/-- Settles O35: behind a text the zero-sum test accepts no byte but its checksum, which CSUM
delivers. -/
theorem corruptedTrailingByteIsIntegrityFailure :
    Obligations.CorruptedTrailingByteIsIntegrityFailure := by
  intro text c last s t u ht hc hne
  obtain rfl := Host.Outcome.next.inj ((exec_csum text s).symm.trans ht)
  obtain rfl := Option.some.inj hc
  have hsum : zeroSum (text ++ [last]) = false := by
    rw [zeroSum_append_eq_decide, decide_eq_false hne]
  rw [exec_rxdeframe, rxdeframe_of_ne_nil (List.concat_ne_nil _ _), deframe_of_nonzeroSum hsum]
  rfl

/-! ### Send and Receive (R140, R141) -/

/-- Send of a non-map fails before any I/O (R131, R140). -/
theorem send_of_nonMap {p : Payload} (hm : Config.isMap p = false) (useCs : Bool) (a : BitVec 16)
    (ch : Byte) (s : State) : send p useCs a ch s = raise .validation s := by
  simp [send, hm]

/-- Send of a payload that does not serialize fails before any I/O (R140, D10). -/
theorem send_of_unserializable {p : Payload} (ht : Config.serialize p = none) (useCs : Bool)
    (a : BitVec 16) (ch : Byte) (s : State) : send p useCs a ch s = raise .validation s := by
  simp [send, ht]

/-- A wait and the write behind it: two events, one answer of the transport taken (R18, R60). -/
theorem transportWrite_wait_eq (b : Bytes) (ms : Nat) (s : State) :
    transportWrite b (wait ms s) = { s with
      env := s.env.afterWrite,
      trace := s.trace ++ [.wait ms,
        .write b (WriteAnswer.sent b s.env.nextWrite) (WriteAnswer.isOk s.env.nextWrite)] } := by
  simp [transportWrite, wait, emit]

/-- Settles O36: the two failures before any I/O, and the two answers of the write. -/
theorem sendWritesTheFrameAfterQuiescence : Obligations.SendWritesTheFrameAfterQuiescence := by
  intro p useCs a ch rest s hr
  rw [step_of_call hr, runHostCall]
  refine congrArg _ ?_
  cases hm : Config.isMap p with
  | false => exact send_of_nonMap hm useCs a ch _
  | true =>
    cases ht : Config.serialize p with
    | none => exact send_of_unserializable ht useCs a ch _
    | some text =>
      rw [send_of_serialize hm ht, transportWrite_wait_eq, takeRequest_env, takeRequest_cfr]
      cases hw : s.env.nextWrite with
      | ok => rfl
      | error n => rfl

theorem receive_of_nothing (useCs : Bool) (s : State) (h : s.env.nextRead = .nothing) :
    receive useCs s = rxdeframe useCs none (transportRead s) := by
  rw [receive, h]

theorem receive_of_bytes (useCs : Bool) (b : Bytes) (s : State) (h : s.env.nextRead = .bytes b) :
    receive useCs s = rxdeframe useCs (some b) (transportRead s) := by
  rw [receive, h]

theorem receive_of_error (useCs : Bool) (s : State) (h : s.env.nextRead = .error) :
    receive useCs s = raiseNoMessage .transport (transportRead s) := by
  rw [receive, h]

/-- Settles O37: by the three answers of the read, each on the state with the request taken. -/
theorem receiveDeframesOneRead : Obligations.ReceiveDeframesOneRead := by
  intro useCs rest s hr u
  rw [step_of_call hr, runHostCall]
  exact ⟨fun h => congrArg _ (receive_of_nothing useCs (takeRequest rest s) h),
    fun b h => congrArg _ (receive_of_bytes useCs b (takeRequest rest s) h),
    fun h => congrArg _ (receive_of_error useCs (takeRequest rest s) h)⟩

end Sys2Proof.Machine
end

section
/-! PROOFS. The Command Protocol (44_command_protocol.md): where a register-level command can end and in
which state, what that says of its trace, and from it the preparation of every write; `setMode` and the
idle-wait loop. -/

namespace Sys2Proof.Machine

/-! ### The steps of a command and where it can end (R150 to R161) -/

/-- A command's frame offered to the transport, after `sleep` was forced (R150, R154). -/
def frameOffered (frame : Bytes) (s : State) : State := transportWrite frame (setMode .sleep s)

/-- The one read of a command made and settled, behind an accepted frame (R155). -/
def responseRead (frame : Bytes) (s : State) : State :=
  wait 50 (transportRead (wait 50 (frameOffered frame s)))

@[simp] theorem frameOffered_cfr (frame : Bytes) (s : State) :
    (frameOffered frame s).cfr = s.cfr := by
  simp [frameOffered]
@[simp] theorem frameOffered_mode (frame : Bytes) (s : State) :
    (frameOffered frame s).mode = .sleep := by
  simp [frameOffered]
@[simp] theorem frameOffered_store (frame : Bytes) (s : State) :
    (frameOffered frame s).store = s.store := by
  simp [frameOffered]
@[simp] theorem frameOffered_env (frame : Bytes) (s : State) :
    (frameOffered frame s).env = s.env.afterWrite := by
  simp [frameOffered]
@[simp] theorem frameOffered_trace (frame : Bytes) (s : State) :
    (frameOffered frame s).trace = (setMode .sleep s).trace ++
      [.write frame (WriteAnswer.sent frame s.env.nextWrite)
        (WriteAnswer.isOk s.env.nextWrite)] := by
  simp [frameOffered]

@[simp] theorem responseRead_cfr (frame : Bytes) (s : State) :
    (responseRead frame s).cfr = s.cfr := by simp [responseRead]
@[simp] theorem responseRead_mode (frame : Bytes) (s : State) :
    (responseRead frame s).mode = .sleep := by simp [responseRead]
@[simp] theorem responseRead_store (frame : Bytes) (s : State) :
    (responseRead frame s).store = s.store := by simp [responseRead]
@[simp] theorem responseRead_env (frame : Bytes) (s : State) :
    (responseRead frame s).env = s.env.afterWrite.afterRead := by simp [responseRead]
/-- The events of an accepted frame and of the read behind it (R154, R155). -/
theorem responseRead_trace (frame : Bytes) (s : State) :
    (responseRead frame s).trace = (setMode .sleep s).trace ++
      [.write frame (WriteAnswer.sent frame s.env.nextWrite) (WriteAnswer.isOk s.env.nextWrite),
        .wait 50, .read s.env.afterWrite.nextRead, .wait 50] := by
  simp [responseRead]

theorem isOk_of_eq_ok {a : WriteAnswer} (h : a = .ok) : WriteAnswer.isOk a = true := by
  rw [h, WriteAnswer.isOk]

section
variable {c : Command} {frame : Bytes} {s : State}

theorem runCommand_of_frame (hf : commandFrame c s.cfr = some frame) :
    runCommand c s = exchange c frame (setMode .sleep s) := by
  rw [runCommand, setMode_cfr, hf]

theorem runCommand_of_writeError (hf : commandFrame c s.cfr = some frame)
    (hw : WriteAnswer.isOk s.env.nextWrite = false) :
    runCommand c s = raise .transport (settleAfterWrite false (frameOffered frame s)) := by
  simp [runCommand_of_frame hf, exchange, hw, frameOffered]

theorem runCommand_reset (hw : WriteAnswer.isOk s.env.nextWrite = true) :
    runCommand .reset s =
      deliver .ok (wait 50 (frameOffered [0xC4#8, 0xC4#8, 0xC4#8] s)) := by
  simp [runCommand_of_frame (c := .reset) rfl, exchange, hw, frameOffered]

/-- A command other than `reset` whose write is accepted goes on to its read (R155). -/
theorem runCommand_of_accepted (hf : commandFrame c s.cfr = some frame) (hc : c ≠ .reset)
    (hw : WriteAnswer.isOk s.env.nextWrite = true) :
    runCommand c s = readResponse c (wait 50 (frameOffered frame s)) := by
  cases c with
  | reset => exact absurd rfl hc
  | _ => simp [runCommand_of_frame hf, exchange, hw, frameOffered]

theorem runCommand_of_readError (hf : commandFrame c s.cfr = some frame) (hc : c ≠ .reset)
    (hw : WriteAnswer.isOk s.env.nextWrite = true) (hr : s.env.afterWrite.nextRead = .error) :
    runCommand c s = raise .transport (responseRead frame s) := by
  have hread : (wait 50 (frameOffered frame s)).env.nextRead = .error := hr
  rw [runCommand_of_accepted hf hc hw, readResponse, hread, responseRead]

theorem runCommand_of_answer (hf : commandFrame c s.cfr = some frame) (hc : c ≠ .reset)
    (hw : WriteAnswer.isOk s.env.nextWrite = true) (hr : s.env.afterWrite.nextRead ≠ .error) :
    runCommand c s =
      respond c (answerBytes s.env.afterWrite.nextRead) (responseRead frame s) := by
  rw [runCommand_of_accepted hf hc hw]
  rcases readResponse_cases c (wait 50 (frameOffered frame s)) with ⟨herr, -⟩ | ⟨-, h⟩
  · exact absurd herr hr
  · exact h

end

/-- The five ends of a command: no frame, a write error, the end of `reset`, a read error, or the
response contract (R150 to R161). -/
theorem runCommand_endings (c : Command) (s : State) :
    runCommand c s = raise .validation (setMode .sleep s) ∨
    (∃ frame, runCommand c s = raise .transport (settleAfterWrite false (frameOffered frame s))) ∨
    (c = .reset ∧ ∃ frame,
      runCommand c s = deliver .ok (wait 50 (frameOffered frame s))) ∨
    (∃ frame, runCommand c s = raise .transport (responseRead frame s)) ∨
    (c ≠ .reset ∧ ∃ frame resp, runCommand c s = respond c resp (responseRead frame s)) := by
  cases hf : commandFrame c s.cfr with
  | none => exact .inl (runCommand_of_no_frame hf)
  | some frame =>
    cases hw : WriteAnswer.isOk s.env.nextWrite with
    | false => exact .inr (.inl ⟨frame, runCommand_of_writeError hf hw⟩)
    | true =>
      by_cases hc : c = .reset
      · subst hc
        exact .inr (.inr (.inl ⟨rfl, _, runCommand_reset hw⟩))
      · by_cases hr : s.env.afterWrite.nextRead = .error
        · exact .inr (.inr (.inr (.inl ⟨frame, runCommand_of_readError hf hc hw hr⟩)))
        · exact .inr (.inr (.inr (.inr ⟨hc, frame, _, runCommand_of_answer hf hc hw hr⟩)))

/-! ### `MODE` after a command (R163) -/

/-- No end of a command writes `MODE` (R163). -/
theorem CommandEnd.mode {u t : State} {c : Command} (h : CommandEnd u c t) : t.mode = u.mode := by
  cases h <;> rfl

theorem runCommand_mode (c : Command) (s : State) : (runCommand c s).mode = .sleep := by
  rcases runCommand_endings c s with h | ⟨frame, h⟩ | ⟨-, frame, h⟩ | ⟨frame, h⟩ |
    ⟨-, frame, resp, h⟩ <;> rw [h]
  · rfl
  · rw [raise_mode, settleAfterWrite_mode, frameOffered_mode]
  · rfl
  · rw [raise_mode, responseRead_mode]
  · rw [(respond_commandEnd c resp _).mode, responseRead_mode]

/-- Settles O49: a wire row runs its command, which leaves `MODE` at `sleep` wherever it ends. -/
theorem commandsLeaveModeSleep : Obligations.CommandsLeaveModeSleep := by
  intro i s hi
  obtain ⟨c, hc⟩ := exec_of_isCommand hi s
  exact ⟨_, hc, runCommand_mode c s⟩

/-! ### The trace of a command (R150, R217, R223 to R226) -/

/-- A write to the transport. -/
@[simp] def Event.isWrite : Event → Bool
  | .write _ _ _ => true
  | _ => false

/-- No event but the first is a write to the transport. -/
@[simp] def WriteOnlyFirst (ev : List Event) : Prop :=
  ∀ e ∈ ev.tail, Event.isWrite e = false

/-- The response contract uses no primitive but `Persist` (R156 to R159). -/
theorem CommandEnd.trace {u t : State} {c : Command} (h : CommandEnd u c t) :
    t.trace = u.trace ∨ ∃ r, t.trace = u.trace ++ [.persist r] := by
  cases h with
  | config r => exact .inr ⟨_, rfl⟩
  | _ => exact .inl rfl

theorem settleAfterWrite_trace (ok : Bool) (s : State) :
    (settleAfterWrite ok s).trace = s.trace ∨
      (settleAfterWrite ok s).trace = s.trace ++ [.wait 50] := by
  rcases settleAfterWrite_eq ok s with h | ⟨h, -⟩ <;> rw [h]
  · exact .inr rfl
  · exact .inl rfl

/-- The events of a command after `sleep` was forced: it writes at once or not at all, and if it ends
with `OK` it settles once more for its write and once for its read (R150, R154, R155). -/
theorem runCommand_trace (c : Command) (s : State) :
    ∃ ev, (runCommand c s).trace = (setMode .sleep s).trace ++ ev ∧ WriteOnlyFirst ev ∧
      ((runCommand c s).out.outcome = some .ok → waited ev = if c = .reset then 50 else 100) := by
  rcases runCommand_endings c s with h | ⟨frame, h⟩ | ⟨rfl, frame, h⟩ | ⟨frame, h⟩ |
    ⟨hc, frame, resp, h⟩ <;> rw [h]
  · exact ⟨[], (List.append_nil _).symm, by simp, nofun⟩
  · rcases settleAfterWrite_trace false (frameOffered frame s) with ht | ht <;>
      rw [raise_trace, ht, frameOffered_trace]
    · exact ⟨_, rfl, by simp, nofun⟩
    · exact ⟨_, List.append_assoc _ _ _, by simp, nofun⟩
  · rw [deliver_trace, wait_trace, frameOffered_trace]
    exact ⟨_, List.append_assoc _ _ _, by simp, fun _ => rfl⟩
  · rw [raise_trace, responseRead_trace]
    exact ⟨_, rfl, by simp, nofun⟩
  · rcases (respond_commandEnd c resp (responseRead frame s)).trace with ht | ⟨r, ht⟩ <;>
      rw [ht, responseRead_trace, if_neg hc]
    · exact ⟨_, rfl, by simp, fun _ => rfl⟩
    · exact ⟨_, List.append_assoc _ _ _, by simp, fun _ => rfl⟩

/-- The command a wire row runs is `reset` exactly when the row is (R86). -/
theorem exec_eq_runCommand_iff_reset {i : Instr} (h : isCommand i = true) (s : State) :
    ∃ c, exec i s = .next (runCommand c s) ∧ (c = .reset ↔ i = .reset) := by
  cases i with
  | setConfigPwrDwnSave f => exact ⟨.setConfigPwrDwnSave, rfl, nofun, nofun⟩
  | setConfigPwrDwnNoSave f => exact ⟨.setConfigPwrDwnNoSave, rfl, nofun, nofun⟩
  | getConfig => exact ⟨.getConfig, rfl, nofun, nofun⟩
  | getVersion => exact ⟨.getVersion, rfl, nofun, nofun⟩
  | reset => exact ⟨.reset, rfl, fun _ => rfl, fun _ => rfl⟩
  | _ => cases h

/-- Settles O51: forcing `sleep` waits 50 ms, and `runCommand_trace` counts the waits behind it. -/
theorem commandsBeginWithSleepAndWait : Obligations.CommandsBeginWithSleepAndWait := by
  intro i s t hi ht
  obtain ⟨c, hc, hreset⟩ := exec_eq_runCommand_iff_reset hi s
  obtain rfl := Host.Outcome.next.inj (hc.symm.trans ht)
  obtain ⟨ev, htrace, -, hwaited⟩ := runCommand_trace c s
  refine ⟨ev, by simp [htrace], fun hok => ?_⟩
  rw [hwaited hok]
  by_cases hr : i = .reset
  · rw [if_pos (hreset.mpr hr), if_pos hr]
  · rw [if_neg (mt hreset.mp hr), if_neg hr]

/-! ### Every write was prepared (R150, R217, R222) -/

/-- One more event: a write needs what stands before it to prepare it (R150, R222). -/
theorem writesPrepared_append_singleton {t : List Event} {e : Event} (h : WritesPrepared t)
    (he : Event.isWrite e = true → Prepared t) : WritesPrepared (t ++ [e]) := by
  intro before offered sent ok after heq
  rcases List.eq_nil_or_concat after with rfl | ⟨init, last, rfl⟩
  · obtain ⟨rfl, hwrite⟩ := List.append_inj' heq rfl
    exact he (by rw [List.singleton_inj.mp hwrite]; rfl)
  · have hsplit : t ++ [e] = (before ++ .write offered sent ok :: init) ++ [last] := by
      rw [heq, List.concat_eq_append, List.append_assoc, List.cons_append]
    exact h _ _ _ _ _ (List.append_inj' hsplit rfl).1

theorem writesPrepared_append_quiet {t ev : List Event} (h : WritesPrepared t)
    (hev : ∀ e ∈ ev, Event.isWrite e = false) : WritesPrepared (t ++ ev) := by
  induction ev generalizing t with
  | nil => rwa [List.append_nil]
  | cons e ev ih =>
    obtain ⟨he, hev⟩ := List.forall_mem_cons.mp hev
    rw [List.append_cons]
    exact ih (writesPrepared_append_singleton h fun hwrite =>
      absurd (he.symm.trans hwrite) Bool.false_ne_true) hev

theorem writesPrepared_append_writeOnlyFirst {t ev : List Event} (h : WritesPrepared t)
    (hp : Prepared t) (hev : WriteOnlyFirst ev) : WritesPrepared (t ++ ev) := by
  cases ev with
  | nil => rwa [List.append_nil]
  | cons e ev =>
    rw [List.append_cons]
    exact writesPrepared_append_quiet (writesPrepared_append_singleton h fun _ => hp) hev

section
variable {s : State}

theorem writesPrepared_setMode (m : Mode) (h : WritesPrepared s.trace) :
    WritesPrepared (setMode m s).trace :=
  writesPrepared_append_singleton (writesPrepared_append_singleton h nofun) nofun

/-- A command writes only right after it forced `sleep` and settled (R150, R217). -/
theorem writesPrepared_runCommand (c : Command) (h : WritesPrepared s.trace) :
    WritesPrepared (runCommand c s).trace := by
  obtain ⟨ev, htrace, hev, -⟩ := runCommand_trace c s
  have hp : Prepared (setMode .sleep s).trace := .inl ⟨s.trace, List.append_assoc _ _ _⟩
  rw [htrace]
  exact writesPrepared_append_writeOnlyFirst (writesPrepared_setMode .sleep h) hp hev

/-- Send writes only right after the quiescence wait (R140, R222). -/
theorem writesPrepared_send (p : Payload) (useCs : Bool) (a : BitVec 16) (ch : Byte)
    (h : WritesPrepared s.trace) : WritesPrepared (send p useCs a ch s).trace := by
  rcases send_cases p useCs a ch s with hs | ⟨text, -, -, hs⟩ <;> rw [hs]
  · exact h
  · have hwaited : WritesPrepared (wait 300 s).trace := writesPrepared_append_singleton h nofun
    exact writesPrepared_append_singleton hwaited fun _ => .inr ⟨s.trace, rfl⟩

theorem rxdeframe_trace (useCs : Bool) (rxb : Option Bytes) (s : State) :
    (rxdeframe useCs rxb s).trace = s.trace := by
  obtain ⟨o, l, h⟩ := rxdeframe_eq_deliver useCs rxb s
  rw [h, deliver_trace]

theorem receive_trace (useCs : Bool) (s : State) :
    (receive useCs s).trace = s.trace ++ [.read s.env.nextRead] := by
  cases hr : s.env.nextRead with
  | nothing => rw [receive_of_nothing useCs s hr, rxdeframe_trace, transportRead_trace, hr]
  | bytes b => rw [receive_of_bytes useCs b s hr, rxdeframe_trace, transportRead_trace, hr]
  | error => rw [receive_of_error useCs s hr, raiseNoMessage_trace, transportRead_trace, hr]

theorem writesPrepared_idlePolls (n : Nat) {s : State} (h : WritesPrepared s.trace) :
    WritesPrepared (idlePolls n s).trace := by
  induction n generalizing s with
  | zero => exact h
  | succ n ih =>
    have polled : WritesPrepared (poll s).trace := writesPrepared_append_singleton h nofun
    rcases idlePolls_succ n s with ⟨-, hs⟩ | ⟨-, hs⟩ <;> rw [hs]
    · exact polled
    · exact ih (writesPrepared_append_singleton polled nofun)

theorem writesPrepared_exec {i : Instr} {t : State} (h : WritesPrepared s.trace)
    (ht : exec i s = .next t) : WritesPrepared t.trace := by
  cases hi : isCommand i with
  | true =>
    obtain ⟨c, hc⟩ := exec_of_isCommand hi s
    exact Host.Outcome.next.inj (hc.symm.trans ht) ▸ writesPrepared_runCommand c h
  | false =>
    obtain ⟨-, -, -, -, -, -, htrace, -⟩ := blockOperationsWriteOnlyTheirOwnState i s t hi ht
    rwa [htrace]

theorem writesPrepared_requestCommand (k : Byte) (h : WritesPrepared s.trace) :
    WritesPrepared (requestCommand k s).trace := by
  unfold requestCommand
  split
  · exact writesPrepared_runCommand _ h
  · exact h

theorem writesPrepared_setTransmissionMode (m : BitVec 1) (h : WritesPrepared s.trace) :
    WritesPrepared (setTransmissionMode m s).trace := by
  unfold setTransmissionMode
  split
  · exact h
  · exact writesPrepared_runCommand _ h

theorem writesPrepared_runHostCall {c : HostCall} {t : State} (h : WritesPrepared s.trace)
    (ht : runHostCall c s = .next t) : WritesPrepared t.trace := by
  cases c with
  | load => cases ht
  | command k => exact Host.Outcome.next.inj ht ▸ writesPrepared_requestCommand k h
  | setMode m => exact Host.Outcome.next.inj ht ▸ writesPrepared_setMode m h
  | send p useCs a ch => exact Host.Outcome.next.inj ht ▸ writesPrepared_send p useCs a ch h
  | receive useCs =>
    rw [← Host.Outcome.next.inj ht, receive_trace]
    exact writesPrepared_append_singleton h nofun
  | start a ch m =>
    rw [← Host.Outcome.next.inj ht]
    exact writesPrepared_runCommand _ h
  | setTransmissionMode m =>
    exact Host.Outcome.next.inj ht ▸ writesPrepared_setTransmissionMode m h
  | idleWait => exact Host.Outcome.next.inj ht ▸ writesPrepared_idlePolls 10 h
  | writeCfr w => exact Host.Outcome.next.inj ht ▸ h

end

/-- Settles O4: an instruction and a host procedure keep the discipline, and taking or rejecting a
request writes nothing. -/
theorem stepKeepsWritesPrepared : Obligations.StepKeepsWritesPrepared := by
  intro s t h ht
  rcases step_cases s with ⟨-, hs⟩ | ⟨e, rest, -, ⟨i, -, hs⟩ | ⟨r, -, hs⟩⟩ | ⟨c, rest, -, hs⟩ <;>
    rw [hs] at ht
  · exact Host.Outcome.next.inj ht ▸ h
  · exact writesPrepared_exec (s := takeRequest rest s) h ht
  · exact Host.Outcome.next.inj ht ▸ h
  · exact writesPrepared_runHostCall (s := takeRequest rest s) h ht

/-! ### The response contracts (R155 to R160) -/

section
variable {s : State}

/-- The state in which the response is decoded: only the mode, the environment and the trace have
changed (R155). -/
theorem responseRead_eq (frame : Bytes) (hw : s.env.nextWrite = .ok) :
    responseRead frame s = { s with
      mode := .sleep, env := s.env.afterWrite.afterRead,
      trace := s.trace ++ [.setLines .sleep, .wait 50, .write frame frame true, .wait 50,
        .read s.env.afterWrite.nextRead, .wait 50] } := by
  apply State.eq_of_fields <;>
    simp [responseRead, frameOffered, hw, WriteAnswer.sent, WriteAnswer.isOk]

/-- A command whose response is read decodes it as its contract says (R155). -/
theorem runCommand_of_bytes {c : Command} {frame resp : Bytes}
    (hf : commandFrame c s.cfr = some frame) (hc : c ≠ .reset) (hw : s.env.nextWrite = .ok)
    (hr : s.env.afterWrite.nextRead = .bytes resp) :
    runCommand c s = respond c resp (responseRead frame s) := by
  rw [runCommand_of_answer hf hc (isOk_of_eq_ok hw) (by rw [hr]; nofun), hr, answerBytes]

/-- Six bytes are decoded into CFR, and the new record is persisted (R157, R158). -/
theorem respondConfig_responseRead (frame : Bytes) (r : Frame6) (hw : s.env.nextWrite = .ok)
    (hr : s.env.afterWrite.nextRead = .bytes r.toBytes) :
    respondConfig r.toBytes (responseRead frame s) = { s with
      mode := .sleep, cfr := unpackFields (cfgFields r),
      store := some ⟨s.model, s.port, s.freq, unpackFields (cfgFields r)⟩,
      env := s.env.afterWrite.afterRead,
      trace := s.trace ++ [.setLines .sleep, .wait 50, .write frame frame true, .wait 50,
        .read (.bytes r.toBytes), .wait 50,
        .persist ⟨s.model, s.port, s.freq, unpackFields (cfgFields r)⟩],
      out := .ok } := by
  have hpersist : respondConfig r.toBytes (responseRead frame s) =
      persist (unpackCfg r (responseRead frame s)) := rfl
  rw [hpersist, responseRead_eq frame hw, hr]
  refine State.eq_of_fields _ _ rfl rfl rfl rfl rfl rfl rfl rfl ?_ rfl rfl
  simp [record]

end

/-- Settles O41: `getConfig` is answered by six bytes, which its contract stores and persists. -/
theorem getConfigStoresAndPersists : Obligations.GetConfigStoresAndPersists := by
  intro r s hw hr rec'
  exact congrArg Host.Outcome.next
    ((runCommand_of_bytes (c := .getConfig) rfl nofun hw hr).trans
      (respondConfig_responseRead _ r hw hr))

/-- Settles O42: the packed frame is the one written, and the response is stored as for `getConfig`. -/
theorem setConfigSendsPackedFrameAndStoresResponse :
    Obligations.SetConfigSendsPackedFrameAndStoresResponse := by
  intro f r fr s hw hr rec' t
  have ht : respondConfig r.toBytes (responseRead fr.toBytes s) = t :=
    respondConfig_responseRead fr.toBytes r hw hr
  have hframe {hdr : Byte} (h : packFrame hdr s.cfr = some fr) :
      (packFrame hdr s.cfr).map Frame6.toBytes = some fr.toBytes := by rw [h, Option.map_some]
  exact ⟨fun h => congrArg Host.Outcome.next
      ((runCommand_of_bytes (c := .setConfigPwrDwnSave) (hframe h) nofun hw hr).trans ht),
    fun h => congrArg Host.Outcome.next
      ((runCommand_of_bytes (c := .setConfigPwrDwnNoSave) (hframe h) nofun hw hr).trans ht)⟩

/-- Settles O44: the contract of `getVersion` is UNPACK_VER of its four bytes, which writes results
alone. -/
theorem getVersionSurfacesTheVersion : Obligations.GetVersionSurfacesTheVersion := by
  intro h q v e s hw hr
  refine congrArg Host.Outcome.next
    ((runCommand_of_bytes (c := .getVersion) rfl nofun hw hr).trans ?_)
  rw [responseRead_eq _ hw, hr]
  rfl

/-- Settles O45: `reset` ends behind the settle of its write. -/
theorem resetCommandSendsAndReadsNothing : Obligations.ResetCommandSendsAndReadsNothing := by
  intro s hw
  refine congrArg Host.Outcome.next ((runCommand_reset (isOk_of_eq_ok hw)).trans ?_)
  apply State.eq_of_fields <;> simp [frameOffered, hw, WriteAnswer.sent, WriteAnswer.isOk, Out.ok]

/-! ### The failures of a command (R154 to R161) -/

theorem respondVersion_of_length_ne {resp : Bytes} (h : resp.length ≠ 4) (u : State) :
    respondVersion resp u = raise .protocol u := by
  rcases respondVersion_cases resp u with ⟨r, rfl, -⟩ | ⟨-, hv⟩
  · exact absurd rfl h
  · exact hv

theorem respondConfig_of_length_ne {resp : Bytes} (h : resp.length ≠ 6) (u : State) :
    respondConfig resp u = raise .protocol u := by
  rcases respondConfig_cases resp u with ⟨r, rfl, -⟩ | ⟨-, hv⟩
  · exact absurd rfl h
  · exact hv

/-- A record without a `NULL` packs (R100, R101). -/
theorem exists_packed_frame (hdr : Byte) {c : Cfr} (hp : c.parity ≠ none) (hb : c.baud ≠ none)
    (hd : c.drate ≠ none) : ∃ frame, (packFrame hdr c).map Frame6.toBytes = some frame := by
  rw [← Option.ne_none_iff_exists', ne_eq, Option.map_eq_none_iff, packFrame_eq_none]
  simp [hp, hb, hd]

/-- Settles O46: the contract of each command raises `PROTOCOL` on the state in which the response was
read, which still holds the old CFR and store. -/
theorem wrongResponseLengthIsProtocolFailure : Obligations.WrongResponseLengthIsProtocolFailure := by
  intro f resp s hw hr failed
  have hne : s.env.afterWrite.nextRead ≠ .error := by rcases hr with h | ⟨h, -⟩ <;> rw [h] <;> nofun
  have hbytes : answerBytes s.env.afterWrite.nextRead = resp := by
    rcases hr with h | ⟨h, rfl⟩ <;> rw [h] <;> rfl
  have fails (i : Instr) (c : Command) (hi : exec i s = .next (runCommand c s)) (hc : c ≠ .reset)
      (hf : ∃ frame, commandFrame c s.cfr = some frame)
      (hrespond : ∀ u, respond c resp u = raise .protocol u) : failed i := by
    obtain ⟨frame, hf⟩ := hf
    rw [runCommand_of_answer hf hc (isOk_of_eq_ok hw) hne, hbytes, hrespond] at hi
    exact ⟨_, hi, rfl, by simp⟩
  refine ⟨fun h => fails _ .getVersion rfl nofun ⟨_, rfl⟩ (respondVersion_of_length_ne h),
    fun h => fails _ .getConfig rfl nofun ⟨_, rfl⟩ (respondConfig_of_length_ne h),
    fun h hp hb hd => ⟨?_, ?_⟩⟩
  · exact fails _ .setConfigPwrDwnSave rfl nofun (exists_packed_frame _ hp hb hd)
      (respondConfig_of_length_ne h)
  · exact fails _ .setConfigPwrDwnNoSave rfl nofun (exists_packed_frame _ hp hb hd)
      (respondConfig_of_length_ne h)

/-- A command that packs nothing, or whose record packs, has a frame to write (R152, R153, R219). -/
theorem exists_command_frame {f : CfgFields} {i : Instr} {s : State}
    (hi : i ∈ [Instr.setConfigPwrDwnSave f, .setConfigPwrDwnNoSave f, .getConfig, .getVersion, .reset])
    (hp : i = .setConfigPwrDwnSave f ∨ i = .setConfigPwrDwnNoSave f →
      s.cfr.parity ≠ none ∧ s.cfr.baud ≠ none ∧ s.cfr.drate ≠ none) :
    ∃ c frame, exec i s = .next (runCommand c s) ∧ commandFrame c s.cfr = some frame ∧
      (i ≠ .reset → c ≠ .reset) := by
  simp only [List.mem_cons, List.not_mem_nil, or_false] at hi
  rcases hi with rfl | rfl | rfl | rfl | rfl
  · obtain ⟨hparity, hbaud, hdrate⟩ := hp (.inl rfl)
    obtain ⟨frame, hf⟩ := exists_packed_frame 0xC0#8 hparity hbaud hdrate
    exact ⟨.setConfigPwrDwnSave, frame, rfl, hf, nofun⟩
  · obtain ⟨hparity, hbaud, hdrate⟩ := hp (.inr rfl)
    obtain ⟨frame, hf⟩ := exists_packed_frame 0xC2#8 hparity hbaud hdrate
    exact ⟨.setConfigPwrDwnNoSave, frame, rfl, hf, nofun⟩
  · exact ⟨.getConfig, _, rfl, rfl, nofun⟩
  · exact ⟨.getVersion, _, rfl, rfl, nofun⟩
  · exact ⟨.reset, _, rfl, rfl, fun h => absurd rfl h⟩

/-- Settles O47: the two errors end the command where `runCommand_of_writeError` and
`runCommand_of_readError` say. -/
theorem transportErrorEndsTheCommand : Obligations.TransportErrorEndsTheCommand := by
  intro f i n s hi hp
  obtain ⟨c, frame, hc, hf, hreset⟩ := exists_command_frame hi hp
  refine ⟨fun hw => ⟨_, hc, ?_⟩, fun hw hr hne => ⟨_, hc, ?_⟩⟩
  · rw [runCommand_of_writeError hf (by rw [hw]; rfl)]
    exact ⟨rfl, by simp⟩
  · rw [runCommand_of_readError hf (hreset hne) (isOk_of_eq_ok hw) hr]
    exact ⟨rfl, by simp⟩

/-! ### `setMode` and the idle-wait loop (R151, R164) -/

/-- Settles O52: the call is `setMode`, whatever `MODE` was. -/
theorem setModeAssertsAndSettles : Obligations.SetModeAssertsAndSettles := by
  intro m rest s hr
  rw [step_of_call hr, runHostCall, setMode_eq]
  rfl

/-- The state in which the loop, with `n` polls to make, ends behind `busy` busy ones (R164). -/
def afterBusyPolls (n busy : Nat) (s : State) : State :=
  { s with
    env := Env.afterPoll^[min (busy + 1) n] s.env
    trace := s.trace ++ (List.replicate busy [Event.poll false, Event.wait 10]).flatten ++
      (if busy < n then [Event.poll true] else []) }

/-- An idle answer ends the loop at its first poll (R164). -/
theorem poll_eq_afterBusyPolls (n : Nat) {s : State} (h : s.env.nextIdle = true) :
    poll s = afterBusyPolls (n + 1) 0 s := by
  simp [poll, emit, afterBusyPolls, h]

/-- A busy answer and its wait before the rest of the loop (R164). -/
theorem afterBusyPolls_succ (n busy : Nat) {s : State} (h : s.env.nextIdle = false) :
    afterBusyPolls n busy (wait 10 (poll s)) = afterBusyPolls (n + 1) (busy + 1) s := by
  simp [afterBusyPolls, wait, poll, emit, h, List.replicate_succ, Nat.add_min_add_right]

/-- The loop ends at the first idle answer, or with its polls used up (R164). -/
theorem idlePolls_eq_afterBusyPolls (n : Nat) (s : State) :
    ∃ busy ≤ n, (∀ k < busy, (Env.afterPoll^[k] s.env).nextIdle = false) ∧
      (busy < n → (Env.afterPoll^[busy] s.env).nextIdle = true) ∧
      idlePolls n s = afterBusyPolls n busy s := by
  induction n generalizing s with
  | zero => exact ⟨0, le_rfl, nofun, nofun, by simp [idlePolls, afterBusyPolls]⟩
  | succ n ih =>
    rcases idlePolls_succ n s with ⟨hidle, hs⟩ | ⟨hbusy, hs⟩ <;> rw [hs]
    · exact ⟨0, Nat.zero_le _, nofun, fun _ => hidle, poll_eq_afterBusyPolls n hidle⟩
    · obtain ⟨busy, hle, hbefore, hend, heq⟩ := ih (wait 10 (poll s))
      refine ⟨busy + 1, Nat.succ_le_succ hle, fun k hk => ?_,
        fun hlt => hend (Nat.lt_of_succ_lt_succ hlt), heq.trans (afterBusyPolls_succ n busy hbusy)⟩
      cases k with
      | zero => exact hbusy
      | succ k => exact hbefore k (Nat.lt_of_succ_lt_succ hk)

/-- Settles O53: the loop of ten polls, on the state with the request taken. -/
theorem idleWaitIsBoundedAndSilent : Obligations.IdleWaitIsBoundedAndSilent := by
  intro rest s hr
  obtain ⟨busy, hle, hbefore, hend, heq⟩ := idlePolls_eq_afterBusyPolls 10 (takeRequest rest s)
  refine ⟨busy, hle, hbefore, hend, fun k => afterPoll_iterate_transport k s.env, ?_⟩
  rw [step_of_call hr, runHostCall, idleWait, heq]
  rfl

end Sys2Proof.Machine
end

section
/-! PROOFS. The Configuration Model and Startup (45_config_model.md): the clamps of `start` as
arithmetic, the record it hands to the save command, and how that command can end over it. -/

namespace Sys2Proof.Machine

/-! ### The clamps of the derivation (R170, R171) -/

/-- The derived channel is the channel asked for, or the width of the band below it (R171). -/
theorem deriveChannel_toNat (b : BandLimits) (c : Byte) :
    (deriveChannel b c).toNat = min c.toNat (b.max - b.min) := by
  unfold deriveChannel
  split
  · next h =>
    have hwidth : b.max - b.min < c.toNat := by have := b.min_le_max; omega
    rw [BitVec.toNat_ofNat, Nat.mod_eq_of_lt (hwidth.trans c.isLt), min_eq_right hwidth.le]
  · omega

/-- The derived frequency is the one the derived channel stands for (R170, R171). -/
theorem deriveFreq_eq (b : BandLimits) (c : Byte) :
    deriveFreq b c = b.min + (deriveChannel b c).toNat := by
  have := b.min_le_max
  rw [deriveChannel_toNat, deriveFreq]
  split <;> omega

/-! ### The record `start` makes (R175 to R178) -/

theorem startRecord_freq (a : BitVec 16) (c : Byte) (m : BitVec 1) (s : State) :
    (startRecord a c m s).freq = (startBand s.model).min + (startRecord a c m s).cfr.chan.toNat :=
  deriveFreq_eq _ _

theorem startRecord_chan_toNat (a : BitVec 16) (c : Byte) (m : BitVec 1) (s : State) :
    (startRecord a c m s).cfr.chan.toNat =
      min (min c.toNat 31) ((startBand s.model).max - (startBand s.model).min) := by
  rw [← clampChannel_toNat]
  exact deriveChannel_toNat _ _

theorem startRecord_freq_le (a : BitVec 16) (c : Byte) (m : BitVec 1) (s : State) :
    (startRecord a c m s).freq ≤ (startBand s.model).max := by
  have := (startBand s.model).min_le_max
  rw [startRecord_freq, startRecord_chan_toNat]
  omega

/-- The band of a tag in the known table is the table's, of any other tag the default (R175, R176). -/
theorem startBand_eq_match (model : String) :
    startBand model = (match Config.band model with
      | some known => known
      | none => Config.defaultBand) := by
  unfold startBand
  cases Config.band model <;> rfl

theorem startBand_of_known {model : String} {b : BandLimits} (h : Config.band model = some b) :
    startBand model = b := by
  rw [startBand, h, Option.getD_some]

/-- The save command finds a frame in the record `start` makes (R175, R219). -/
theorem exists_packFrame_startRecord (hdr : Byte) (a : BitVec 16) (c : Byte) (m : BitVec 1)
    (s : State) : ∃ fr, packFrame hdr (startRecord a c m s).cfr = some fr := by
  obtain ⟨f, hf⟩ := Option.ne_none_iff_exists'.mp (packFields_startRecord a c m s)
  exact ⟨cfgFrame hdr f, by rw [packFrame, hf, Option.map_some]⟩

theorem commandFrame_save {c : Cfr} {fr : Frame6} (h : packFrame 0xC0#8 c = some fr) :
    commandFrame .setConfigPwrDwnSave c = some fr.toBytes :=
  congrArg (Option.map Frame6.toBytes) h

/-- A packed frame unpacks to the registers it was packed from (R107). -/
theorem unpackFields_of_packFrame {hdr : Byte} {c : Cfr} {fr : Frame6}
    (h : packFrame hdr c = some fr) : unpackFields (cfgFields fr) = c := by
  obtain ⟨f, hf, rfl⟩ := Option.map_eq_some_iff.mp h
  rw [cfgFields_cfgFrame, unpackFields_of_packFields hf]

/-- A pending `start` is the save command on its record, whatever the row's variable bits (R178). -/
theorem step_start {a : BitVec 16} {c : Byte} {m : BitVec 1} {rest : List Request} {s : State}
    (f : CfgFields) (hr : s.requests = .call (.start a c m) :: rest) :
    step s = exec (.setConfigPwrDwnSave f) (startRecord a c m (takeRequest rest s)) :=
  step_of_call hr

/-- Settles O54: the record is `startRecord`, and its channel and frequency are the clamps above. -/
theorem startClampsThenSaves : Obligations.StartClampsThenSaves := by
  intro a c m f rest s hr
  let taken := takeRequest rest s
  exact ⟨startRecord a c m taken, startBand s.model, startBand_eq_match s.model, step_start f hr,
    rfl, rfl, startRecord_chan_toNat a c m taken, startRecord_freq a c m taken,
    startRecord_freq_le a c m taken, rfl, rfl, rfl, rfl, rfl, rfl, rfl, rfl, rfl, rfl, rfl, rfl, rfl,
    rfl, rfl⟩

/-! ### Only packing fails with `VALIDATION` (R191, R192, R219) -/

theorem respondConfig_cause_ne_validation (resp : Bytes) (s : State) :
    (respondConfig resp s).out.cause ≠ .validation := by
  rcases respondConfig_cases resp s with ⟨r, -, h⟩ | ⟨-, h⟩ <;> rw [h] <;> nofun

theorem respond_cause_ne_validation (c : Command) (resp : Bytes) (s : State) :
    (respond c resp s).out.cause ≠ .validation := by
  cases c with
  | reset => exact nofun
  | getVersion =>
    rw [respond]
    rcases respondVersion_cases resp s with ⟨r, -, h⟩ | ⟨-, h⟩ <;> rw [h] <;> nofun
  | _ => exact respondConfig_cause_ne_validation resp s

/-- Once a command has its frame, no end of it is `VALIDATION` (R154 to R160). -/
theorem runCommand_cause_ne_validation {c : Command} {frame : Bytes} {s : State}
    (hf : commandFrame c s.cfr = some frame) : (runCommand c s).out.cause ≠ .validation := by
  rw [runCommand_of_frame hf]
  rcases exchange_cases c frame (setMode .sleep s) with ⟨-, h⟩ | ⟨-, -, h⟩ | ⟨-, -, h⟩ <;> rw [h]
  · exact nofun
  · exact nofun
  · rcases readResponse_cases c (wait 50 (transportWrite frame (setMode .sleep s))) with
      ⟨-, h⟩ | ⟨-, h⟩ <;> rw [h]
    · exact nofun
    · exact respond_cause_ne_validation c _ _

/-- Settles O55: the record `start` makes has a frame, so the save command gets past its packing. -/
theorem startNeverFailsValidation : Obligations.StartNeverFailsValidation := by
  intro a c m rest s hr
  obtain ⟨fr, hfr⟩ := exists_packFrame_startRecord 0xC0#8 a c m (takeRequest rest s)
  exact ⟨_, step_of_call hr, runCommand_cause_ne_validation (commandFrame_save hfr)⟩

/-! ### The source's scenario 3 and `setTransmissionMode` (S3, R179) -/

/-- A save whose own frame is echoed leaves the registers as they were and persists them (R107, R158). -/
theorem save_of_echo {s : State} {fr : Frame6} (hfr : packFrame 0xC0#8 s.cfr = some fr)
    (hw : s.env.nextWrite = .ok) (hread : s.env.afterWrite.nextRead = .bytes fr.toBytes) :
    let t := runCommand .setConfigPwrDwnSave s
    t.out = { outcome := some .ok } ∧ t.cfr = s.cfr ∧ t.store = some (record t) := by
  intro t
  have ht : t = respondConfig fr.toBytes (responseRead fr.toBytes s) :=
    runCommand_of_bytes (commandFrame_save hfr) nofun hw hread
  rw [ht, respondConfig_responseRead fr.toBytes fr hw hread]
  exact ⟨rfl, unpackFields_of_packFrame hfr, rfl⟩

/-- Settles O56: the clamps give 31 and 441, the frame of a command keeps the frequency and, on a
failure, the registers, and an echoed frame unpacks to them. -/
theorem startScenarioThree : Obligations.StartScenarioThree := by
  intro a m f b rest s hr hband hmin hmax
  let u := startRecord a 40#8 m (takeRequest rest s)
  let t := runCommand .setConfigPwrDwnSave u
  have ht : exec (.setConfigPwrDwnSave f) u = .next t := rfl
  have hb : startBand (takeRequest rest s).model = b := startBand_of_known hband
  have hchan : u.cfr.chan = 31#8 := BitVec.eq_of_toNat_eq <| by
    rw [startRecord_chan_toNat, hb, hmin, hmax]; rfl
  have hfreq : u.freq = 441 := by rw [startRecord_freq, hchan, hb, hmin]; rfl
  obtain ⟨-, -, hkeep, -, -, -, hfail⟩ := commandFrameAndFailureKeepCfr _ u t rfl ht
  obtain ⟨fr, hfr⟩ := exists_packFrame_startRecord 0xC0#8 a 40#8 m (takeRequest rest s)
  have herror (n : Nat) (hw : s.env.nextWrite = .error n) : t.out = .fail .transport := by
    have hrun : t = _ :=
      runCommand_of_writeError (commandFrame_save hfr) (congrArg WriteAnswer.isOk hw)
    rw [hrun, raise_out]
  exact ⟨u, t, step_start f hr, step_of_call hr, hchan, hfreq, rfl, rfl, rfl, hkeep.trans hfreq,
    fun hne => (hfail (.inl hne)).1, herror, fr, hfr, save_of_echo hfr⟩

/-- Settles O57: the two branches of the call, on the state with the request taken. -/
theorem setTransmissionModeSavesOnlyAChange : Obligations.SetTransmissionModeSavesOnlyAChange := by
  intro m f rest s hr
  have hstep : step s = .next (setTransmissionMode m (takeRequest rest s)) := step_of_call hr
  rw [hstep]
  exact ⟨fun h => congrArg _ (if_pos h), fun h => congrArg _ (if_neg h)⟩

end Sys2Proof.Machine
end

section
/-! PROOFS. Exceptions and modes (60_exceptions.md): the block's operations do not read `MODE`, so each
gives the same results and the same state whatever `MODE` holds (R200). -/

namespace Sys2Proof.Machine

/-- PACK_CFG reads CFR alone (R100, R200). -/
theorem packCfg_withMode (hdr : Byte) (m : Mode) (s : State) :
    packCfg hdr { s with mode := m } = { packCfg hdr s with mode := m } := by
  unfold packCfg
  dsimp only
  cases packFrame hdr s.cfr <;> rfl

/-- TXFRAME reads `CFR.TMODE`, the transmission mode, and not `MODE` (R135, R200). -/
theorem txframe_withMode (isMap useCs : Bool) (a : BitVec 16) (ch : Byte) (text : Bytes) (m : Mode)
    (s : State) :
    txframe isMap useCs a ch text { s with mode := m } =
      { txframe isMap useCs a ch text s with mode := m } := by
  cases isMap <;> rfl

/-- The checksum test and the parse read the received bytes alone (R139, R142, R200). -/
theorem deframe_withMode (useCs : Bool) (rxb : Bytes) (m : Mode) (s : State) :
    deframe useCs rxb { s with mode := m } = { deframe useCs rxb s with mode := m } := by
  unfold deframe
  cases useCs && !zeroSum rxb with
  | true => rfl
  | false => cases Config.parse (receivedText useCs rxb) <;> rfl

/-- RXDEFRAME ends without a message or deframes what it was given, in every mode (R136, R200). -/
theorem rxdeframe_withMode (useCs : Bool) (rxb : Option Bytes) (m : Mode) (s : State) :
    rxdeframe useCs rxb { s with mode := m } = { rxdeframe useCs rxb s with mode := m } := by
  match rxb with
  | none => rfl
  | some [] => rfl
  | some (b :: bs) => exact deframe_withMode useCs (b :: bs) m s

/-- An instruction that is no wire command commutes with a change of `MODE`: those with a branch of
their own take the same branch in every mode, the others write fixed fields (R200). -/
theorem exec_block_withMode {i : Instr} (h : isCommand i = false) (m : Mode) (s : State) :
    ∃ t, exec i s = .next t ∧ exec i { s with mode := m } = .next { t with mode := m } := by
  cases i with
  | packCfg hdr => exact ⟨_, rfl, congrArg _ (packCfg_withMode hdr m s)⟩
  | txframe isMap useCs a ch text =>
    exact ⟨_, rfl, congrArg _ (txframe_withMode isMap useCs a ch text m s)⟩
  | rxdeframe useCs rxb => exact ⟨_, rfl, congrArg _ (rxdeframe_withMode useCs rxb m s)⟩
  | msgReceived useCs rxb => exact ⟨_, rfl, congrArg _ (rxdeframe_withMode useCs (some rxb) m s)⟩
  | setConfigPwrDwnSave | setConfigPwrDwnNoSave | getConfig | getVersion | reset => cases h
  | unpackCfg | rsp6ConfigResponse | unpackVer | rsp4VersionResponse | msgTransparent | msgFixed
  | csum | csverify | reservedOp => exact ⟨_, rfl, rfl⟩

/-- Settles O40: the state the operation answers is the one `exec_block_withMode` speaks of. -/
theorem modeGatesNoBlockOperation : Obligations.ModeGatesNoBlockOperation := by
  intro i m s t hi ht
  obtain ⟨u, hu, hm⟩ := exec_block_withMode hi m s
  obtain rfl := Host.Outcome.next.inj (hu.symm.trans ht)
  exact hm

end Sys2Proof.Machine
end
